-- ==== Sys2Proof/Word.lean ====
section
/-! DEFINITION. The byte of the host port, and tables: a fixed number of like records, read and
written by index. -/

namespace Sys2Proof

/-- One byte as it crosses the host port. -/
abbrev Byte := BitVec 8

/-- Record `i` of a table of `n` records. -/
def Table.read {α : Type} {n : Nat} (t : Vector α n) (i : Fin n) : α := t[i]

/-- The table with record `i` replaced. -/
def Table.write {α : Type} {n : Nat} (t : Vector α n) (i : Fin n) (a : α) : Vector α n :=
  t.set i.val a i.isLt

/-- The table with every record changed by `f`, which is told the record's index. -/
def Table.mapAt {α : Type} {n : Nat} (f : Fin n → α → α) (t : Vector α n) : Vector α n :=
  Vector.ofFn fun i => f i t[i]

/-- The table whose record `i` is `f i`. -/
def Table.build {α : Type} {n : Nat} (f : Fin n → α) : Vector α n := Vector.ofFn f

/-- The table of `n` copies of one record. -/
def Table.const {α : Type} (n : Nat) (a : α) : Vector α n := Vector.replicate n a

/-- Some record of the table, told its index, meets `p`. -/
def Table.anyAt {α : Type} {n : Nat} (p : Fin n → α → Bool) (t : Vector α n) : Bool :=
  (List.finRange n).any fun i => p i (Table.read t i)

/-- The number of records of the table that, told their index, meet `p`. -/
def Table.countAt {α : Type} {n : Nat} (p : Fin n → α → Bool) (t : Vector α n) : Nat :=
  (List.finRange n).countP fun i => p i (Table.read t i)

end Sys2Proof
end

