-- ==== Sys2Proof/Syntax.lean ====
section
/-! DEFINITION. The commands of the CDE-3210: one constructor per row of spec/opcode_table.json,
with the row's operands as they cross the port or as the event carries them. -/

namespace Sys2Proof

/-- The settings record as SET SETTINGS carries it (R178, R186): fifteen fields, each as wide as its
place in the 19 operand bytes. -/
structure SettingsOperands where
  roundInterval : Byte
  watchInterval : Byte
  holdLimit : Byte
  idleSenseDrive : Byte
  referenceLevel : Byte
  referenceLimit : BitVec 16
  noiseLimit : Byte
  calibrationSamples : Byte
  driftInterval : Byte
  driftStep : Byte
  invertedLimit : BitVec 16
  invertedRounds : Byte
  maxOn : BitVec 16
  autoRetire : Byte
  attentionMask : BitVec 16
deriving DecidableEq, Repr

/-- The channel configuration as SET CHANNEL carries it after the index (R7, R187). -/
structure ChannelOperands where
  level : Byte
  touchThreshold : BitVec 16
  releaseThreshold : BitVec 16
  referenceWeight : Byte
  watchFlag : Byte
  debounceIn : Byte
  debounceOut : Byte
deriving DecidableEq, Repr

/-- What a transaction addressed to the part had carried when the bus timeout expired in it (R175). -/
inductive CutTransaction where
  /-- A write that had carried these data bytes. -/
  | write (bytes : List Byte)
  /-- A read in which the host had clocked bytes, each with the host's acknowledgement of it. -/
  | read (acks : List Bool)
deriving DecidableEq, Repr

/-- How a write transaction ends (R167). -/
inductive FrameEnd where
  /-- With a STOP. -/
  | stop
  /-- With a repeated START and, at once, the address byte of a read or of a write of this address. -/
  | repeatedStart (address : BitVec 7)
deriving DecidableEq, Repr

/-- A write transaction after its address byte: the data bytes it carried and how it ended (R167). -/
structure WriteTransaction where
  bytes : List Byte
  ending : FrameEnd
deriving DecidableEq, Repr

/-- A command: an event at a pin, on the bus, at a timer or at the converter, or a request handed to
the block that owns it. -/
inductive Instr where
  /-- VDD rises through the power-on level (R181). -/
  | powerOn
  /-- Power-on start-up finishes; the operand is the level at ADSEL, high or not (R181, R165). -/
  | startUpComplete (adselHigh : Bool)
  /-- RSTN has been low for 2 µs or more (R182). -/
  | rstnLow
  /-- RSTN rises; the operand is the level at ADSEL (R182, R165). -/
  | rstnRise (adselHigh : Bool)
  /-- HOLD asserts (R120). -/
  | holdAssert
  /-- HOLD releases (R120). -/
  | holdRelease
  /-- A write transaction to an address ends, having carried data bytes (R167, R168). -/
  | requestFrame (address : BitVec 7) (write : WriteTransaction)
  /-- A write transaction to an address ends without a data byte (R167). -/
  | addressProbe (address : BitVec 7)
  /-- A read transaction from an address: for each byte the host clocks, whether it acknowledges that
  byte (R166, R172). -/
  | replyRead (address : BitVec 7) (acks : List Bool)
  /-- SCL has been low for 25 ms inside a transaction addressed to the part (R174, R175). -/
  | busTimeout (cut : CutTransaction)
  /-- IDENTIFY is taken (R176). -/
  | identify
  /-- GET STATUS is taken (R104). -/
  | getStatus
  /-- CLEAR STATUS is taken with an event mask (R101). -/
  | clearStatus (mask : BitVec 16)
  /-- SET MODE PAUSED is taken (R155). -/
  | setModePaused
  /-- SET MODE ACTIVE is taken (R156). -/
  | setModeActive
  /-- SET MODE WATCH is taken (R157, R158). -/
  | setModeWatch
  /-- RESET FULL is taken (R180). -/
  | resetFull
  /-- RESET SCAN is taken (R180, R164). -/
  | resetScan
  /-- A requested reset completes; the operand is the level at ADSEL (R180, R165). -/
  | resetComplete (adselHigh : Bool)
  /-- GET SETTINGS is taken (R177). -/
  | getSettings
  /-- SET SETTINGS is taken with a whole record (R178). -/
  | setSettings (record : SettingsOperands)
  /-- GET CHANNEL is taken (R10). -/
  | getChannel (index : Byte)
  /-- SET CHANNEL is taken (R7). -/
  | setChannel (index : Byte) (fields : ChannelOperands)
  /-- SET ROLE is taken (R5). -/
  | setRole (index : Byte) (role : Byte)
  /-- CALIBRATE is taken with a channel mask and the reference flag (R32). -/
  | calibrate (mask : BitVec 32) (referenceFlag : Byte)
  /-- DEFINE ZONE is taken with the members in physical order (R47). -/
  | defineZone (index : Byte) (kind : Byte) (moveThreshold : Byte) (members : List Byte)
  /-- DELETE ZONE is taken (R50). -/
  | deleteZone (index : Byte)
  /-- GET ZONE is taken (R52). -/
  | getZone (index : Byte)
  /-- READ CONTACTS is taken (R90). -/
  | readContacts
  /-- READ CHANGES is taken (R91). -/
  | readChanges
  /-- ACK CONTACTS is taken with id and revision pairs (R93). -/
  | ackContacts (pairs : List (Byte × Byte))
  /-- MEASURE is taken with a target and a level (R122). -/
  | measure (target : Byte) (level : Byte)
  /-- MEASURE RESULT is taken (R125). -/
  | measureResult
  /-- The current conversion reaches its completion time with this raw count (R111, R112). -/
  | conversionComplete (count : BitVec 12)
  /-- The round timer's interval has passed (R148). -/
  | roundTimerExpiry
  /-- The watch timer's interval has passed (R148). -/
  | watchTimerExpiry
  /-- The round hold-limit timer expires (R161). -/
  | roundHoldLimitExpiry
  /-- The measurement's hold-limit timer expires (R124). -/
  | measureHoldLimitExpiry
  /-- VDD falls below the power-on level (R181). -/
  | supplyFall
deriving DecidableEq, Repr

end Sys2Proof
end

