-- ==== Sys2Proof/WellFormed.lean ====
section
/-! DEFINITION. Which commands are ones the spec's own words describe. An ill-formed command still
has a meaning: the port answers it (R168), or it is the other row's event. -/

namespace Sys2Proof

/-- R167: a write transaction without a data byte is an address probe, not a request frame.
R47: DEFINE ZONE carries 1..8 members. R93: ACK CONTACTS carries 1..10 pairs. Every other command is
well-formed with any operands, since each value outside a range has its own reply. -/
def WellFormed : Instr → Bool
  | .requestFrame _ write => !write.bytes.isEmpty
  | .defineZone _ _ _ members => 1 ≤ members.length && members.length ≤ 8
  | .ackContacts pairs => 1 ≤ pairs.length && pairs.length ≤ 10
  | .powerOn => true
  | .startUpComplete _ => true
  | .rstnLow => true
  | .rstnRise _ => true
  | .holdAssert => true
  | .holdRelease => true
  | .addressProbe _ => true
  | .replyRead _ _ => true
  | .busTimeout _ => true
  | .identify => true
  | .getStatus => true
  | .clearStatus _ => true
  | .setModePaused => true
  | .setModeActive => true
  | .setModeWatch => true
  | .resetFull => true
  | .resetScan => true
  | .resetComplete _ => true
  | .getSettings => true
  | .setSettings _ => true
  | .getChannel _ => true
  | .setChannel _ _ => true
  | .setRole _ _ => true
  | .calibrate _ _ => true
  | .deleteZone _ => true
  | .getZone _ => true
  | .readContacts => true
  | .readChanges => true
  | .measure _ _ => true
  | .measureResult => true
  | .conversionComplete _ => true
  | .roundTimerExpiry => true
  | .watchTimerExpiry => true
  | .roundHoldLimitExpiry => true
  | .measureHoldLimitExpiry => true
  | .supplyFall => true

end Sys2Proof
end

