-- ==== Sys2Proof/Decode.lean ====
section
/-! DEFINITION. The command that a word of spec/opcode_table.json spells. The table gives no row any
bits, so no word spells a command. The requests' own bytes are read in Sys2Proof/Machine/Frame.lean. -/

namespace Sys2Proof

/-- No row of the table carries `fixed` or `fields` bits: every word spells no command. -/
def decodeTableWord (_nbits _w : Nat) : Option Instr := none

end Sys2Proof
end

