-- ==== Sys2Proof/Machine/Records.lean ====
section
/-! DEFINITION. The records the blocks of the part keep: channels, zones, contacts, settings, the
reference, conversions, the measurement slot, timers, rounds and the host port. -/

namespace Sys2Proof.Machine

/-! ### Channels (R2, R3) -/

/-- How an electrode pin is used (R2, R4). -/
inductive Role where
  | parked | sense | guard | ground
deriving DecidableEq, Repr

/-- Position in the channel state machine (R3). -/
inductive ChannelState where
  | off | calibrating | quiet | arming | touched | releasing | fault
deriving DecidableEq, Repr

/-- How the baseline was last set (R3). -/
inductive BaselineSource where
  | none | calibrated | drifted | inverted | stuck
deriving DecidableEq, Repr

/-- The class of a raw count (R111). -/
inductive RangeClass where
  | inRange | low | high
deriving DecidableEq, Repr

/-- Class of the sample that put the channel in FAULT (R3). -/
inductive FaultCause where
  | none | low | high
deriving DecidableEq, Repr

/-- Why a channel last left touch other than by a plain release (R3, R23). -/
inductive LeaveMark where
  | none | stuck | fault | recalibrated
deriving DecidableEq, Repr

/-- The configuration fields of a channel record (R2). -/
structure ChannelConfig where
  role : Role
  level : Nat
  touchThreshold : Nat
  releaseThreshold : Nat
  referenceWeight : Nat
  watch : Bool
  debounceIn : Nat
  debounceOut : Nat
deriving DecidableEq, Repr

/-- The dynamic fields of a channel record (R3). -/
structure ChannelDynamics where
  state : ChannelState
  baseline : Nat
  source : BaselineSource
  lastRaw : Nat
  lastCorrected : Nat
  lastDelta : Int
  debounce : Nat
  onTime : Nat
  driftCount : Nat
  invertedCount : Nat
  outOfRange : Nat
  faultCause : FaultCause
  accumulator : Nat
  samplesTaken : Nat
  mark : LeaveMark
deriving DecidableEq, Repr

/-- One channel record (R1). -/
structure Channel where
  config : ChannelConfig
  dyn : ChannelDynamics
deriving DecidableEq, Repr

/-! ### Zones (R43) -/

/-- A control's shape (R44). -/
inductive ZoneKind where
  | button | slider | wheel
deriving DecidableEq, Repr

/-- The record of a DEFINED zone (R43). The Zone Table holds `none` for a FREE zone, which by R43 has
no kind, no member, move threshold 0, no current contact and both flags off. -/
structure Zone where
  kind : ZoneKind
  moveThreshold : Nat
  members : List (Fin 32)
  current : Option Nat
  pending : Bool
  dropped : Bool
deriving DecidableEq, Repr

/-! ### Contacts (R63) -/

/-- Why a contact was lifted (R63). -/
inductive LiftCause where
  | released | stuck | fault | recalibrated | zoneDeleted
deriving DecidableEq, Repr

/-- Where a contact stands in its life (R70). The lift cause and the lift age are there exactly while
the contact is LIFTED (R64). -/
inductive ContactState where
  | down
  | held
  | lifted (cause : LiftCause) (age : Nat)
deriving DecidableEq, Repr

/-- A recordable change (R87). -/
inductive Change where
  | appeared | moved | lifted
deriving DecidableEq, Repr

/-- The changes recorded since the last acknowledgement (R63). -/
structure ChangeSet where
  appeared : Bool
  moved : Bool
  lifted : Bool
deriving DecidableEq, Repr

/-- The position of a slider or wheel contact and the position the host was last told of (R63). -/
structure Travel where
  position : Nat
  reported : Nat
deriving DecidableEq, Repr

/-- One contact record (R63). Position and reported position are present together or not at all
(R64), as the one field `travel`. -/
structure Contact where
  id : Nat
  zone : Fin 16
  state : ContactState
  changes : ChangeSet
  revision : Nat
  travel : Option Travel
  strength : Nat
  age : Nat
deriving DecidableEq, Repr

/-! ### Report Unit (R100, R103) -/

/-- The eleven status events, in the order of their mask positions (R100, R186). -/
inductive StatusEvent where
  | resetDone | woken | channelFault | rebaselined | referenceRecaptured | referenceFault
  | zoneDropped | liftExpired | holdTimeout | roundOverrun | measureDone
deriving DecidableEq, Repr

/-- A set of status events as the port carries it: bit `n` is the event at position `n` (R186). -/
abbrev EventSet := BitVec 11

/-- Which kind of reset came last (R103). -/
inductive ResetCause where
  | power | pin | full | scan
deriving DecidableEq, Repr

/-! ### Settings (R178) -/

/-- The idle sense drive (R116). -/
inductive IdleDrive where
  | low | guard
deriving DecidableEq, Repr

/-- The settings record: fifteen settings (R178, R179). Times are in the units of R179's table. -/
structure Settings where
  roundInterval : Nat
  watchInterval : Nat
  holdLimit : Nat
  idleSenseDrive : IdleDrive
  referenceLevel : Nat
  referenceLimit : Nat
  noiseLimit : Nat
  calibrationSamples : Nat
  driftInterval : Nat
  driftStep : Nat
  invertedLimit : Nat
  invertedRounds : Nat
  maxOn : Nat
  autoRetire : Nat
  attentionMask : EventSet
deriving DecidableEq, Repr

/-! ### Reference Unit (R129) -/

/-- Whether a reference baseline has been captured (R129). -/
inductive ReferenceState where
  | unset | set
deriving DecidableEq, Repr

/-- The state of the Reference Unit (R129). -/
structure Reference where
  state : ReferenceState
  baseline : Nat
  offset : Int
  noiseCount : Nat
deriving DecidableEq, Repr

/-- What the Reference Unit tells the Scan Controller of a round (R136). -/
inductive Verdict where
  | proceed | noise
deriving DecidableEq, Repr

/-! ### Conversion Unit and Electrode Drive (R109, R114, R115, R121) -/

/-- Who was granted a conversion (R109). -/
inductive Claimant where
  | scan | host
deriving DecidableEq, Repr

/-- What a conversion senses (R109). -/
inductive Target where
  | ref
  | channel (index : Fin 32)
deriving DecidableEq, Repr

/-- The current conversion (R109). `durationUs` is the conversion time, from which the completion
time follows; `ofRound` says that the round in progress posted it and still acts on its outcome
(R161: a hold timeout ends that; DEDUCED, safe: log entry 10). The times are data (log entry 9). -/
structure Conversion where
  claimant : Claimant
  target : Target
  level : Nat
  durationUs : Nat
  held : Bool
  roleLost : Bool
  ofRound : Bool
deriving DecidableEq, Repr

/-- The measurement slot with the fields present in each of its states (R121). -/
inductive Slot where
  | none
  | queued (target : Target) (level : Nat)
  | converting (target : Target) (level : Nat)
  | done (target : Target) (level : Nat) (count : Nat) (range : RangeClass)
  | heldOff (target : Target) (level : Nat)
  | aborted
deriving DecidableEq, Repr

/-- How the Electrode Drive holds a pin (R114, R115). -/
inductive PinDrive where
  | highImpedance | low | sensed | targetWaveform
deriving DecidableEq, Repr, Inhabited

/-! ### Scan Controller (R142) -/

/-- The scan mode (R142). -/
inductive ScanMode where
  | paused | active | watch
deriving DecidableEq, Repr

/-- The kind of a round (R142). -/
inductive RoundKind where
  | active | watch
deriving DecidableEq, Repr

/-- The phase of a round (R142). -/
inductive RoundPhase where
  | reference | channels
deriving DecidableEq, Repr

/-- What a round in progress holds: kind, phase and last channel handled (R142). -/
structure Round where
  kind : RoundKind
  phase : RoundPhase
  last : Option (Fin 32)
deriving DecidableEq, Repr

/-- The round state (R142), with the round's own fields while a round is in progress. -/
inductive RoundState where
  | idle
  | running (round : Round)
  | closing (round : Round)
  | holdWait
deriving DecidableEq, Repr

/-- The round timer or the watch timer, with the interval it started with in ms (R148). -/
inductive Timer where
  | stopped
  | running (ms : Nat)
  | expired
deriving DecidableEq, Repr

/-- A hold-limit timer, with the limit it started with in ms (R124, R160). -/
inductive HoldTimer where
  | stopped
  | running (ms : Nat)
deriving DecidableEq, Repr

/-- The state of the Scan Controller (R142). -/
structure Scan where
  mode : ScanMode
  round : RoundState
  roundTimer : Timer
  watchTimer : Timer
  holdTimer : HoldTimer
  counter : Nat
deriving DecidableEq, Repr

/-! ### Host Port (R165 to R175) -/

/-- A reply status (R171). -/
inductive Status where
  | ok | check | framing | unknown | length | range | state | inUse | role | busy | noRequest
deriving DecidableEq, Repr

/-- The reply in the reply buffer: its length and check bytes follow from these (R171). -/
structure Reply where
  status : Status
  payload : List Byte
deriving DecidableEq, Repr

/-- The state of the Host Port: the request frame being received with its byte count, the reply
buffer, the executing flag, whether the part holds SDA low and whether the bus timeout timer runs
(R166, R174, R183). -/
structure Port where
  frame : List Byte
  frameCount : Nat
  reply : Reply
  executing : Bool
  sdaLow : Bool
  timeoutRunning : Bool
deriving DecidableEq, Repr

/-- The model's own record of what the last transaction showed the host: whether the part acknowledged
its address, how many data bytes of a write the part acknowledged, the bytes the part sent, and, where
a repeated START ended a write and a read or a write was addressed at once, whether the part
acknowledged that address. -/
structure BusView where
  acknowledged : Bool
  dataAcknowledged : Nat
  sent : List Byte
  addressedAtOnce : Option Bool
deriving DecidableEq, Repr

/-- A transaction in which the part took no part. -/
def BusView.ignored : BusView where
  acknowledged := false
  dataAcknowledged := 0
  sent := []
  addressedAtOnce := none

/-- A write of this many data bytes, ended by a STOP: the part acknowledges its address and every data
byte (R166). -/
def BusView.written (count : Nat) : BusView where
  acknowledged := true
  dataAcknowledged := count
  sent := []
  addressedAtOnce := none

/-- A read in which the part sent these bytes. -/
def BusView.answered (sent : List Byte) : BusView where
  acknowledged := true
  dataAcknowledged := 0
  sent := sent
  addressedAtOnce := none

/-! ### Supply and reset (R180 to R182) -/

/-- Which kind of reset a request asked for (R180). -/
inductive ResetKind where
  | full | scan
deriving DecidableEq, Repr

/-- Whether the part runs, and if not, which reset is in progress. -/
inductive Power where
  /-- The supply is below the power-on level (R181). -/
  | unpowered
  /-- A power-on reset is in progress; the flag says that start-up has finished and the reset waits
  for RSTN to rise (R181). -/
  | powerOnReset (startedUp : Bool)
  /-- A pin reset is in progress (R182). -/
  | pinReset
  /-- A requested reset is in progress (R180). -/
  | requestedReset (kind : ResetKind)
  /-- No reset is in progress. -/
  | running
deriving DecidableEq, Repr

end Sys2Proof.Machine
end

