-- ==== Sys2Proof/Config.lean ====
section
/-! DEFINITION. The values the spec leaves open. Each is a constant without a body, so no statement
can lean on what it is. -/

namespace Sys2Proof.Machine

/-- The level the unpowered part leaves at ATTN (true: low) after the `k`-th fall of the supply. The
spec states none (DESIGN CHOICE, safe: log entry 2). -/
opaque Config.unpoweredAttn : Nat → Bool

/-- How the unpowered part leaves electrode pin `pin` after the `k`-th fall of the supply. The spec
states none (DESIGN CHOICE, safe: log entry 2). -/
opaque Config.unpoweredPin : Nat → Nat → PinDrive

end Sys2Proof.Machine
end

