-- ==== Sys2Proof/Machine/Defaults.lean ====
section
/-! DEFINITION. The values a reset gives each record. -/

namespace Sys2Proof.Machine

/-- The configuration fields after a full reset (R2, R24). -/
def ChannelConfig.fullReset : ChannelConfig where
  role := .parked
  level := 3
  touchThreshold := 60
  releaseThreshold := 40
  referenceWeight := 16
  watch := false
  debounceIn := 2
  debounceOut := 2

/-- The dynamic fields with every one at 0 or NONE, in the given state (R1, R5, R25). -/
def ChannelDynamics.cleared (state : ChannelState) : ChannelDynamics where
  state := state
  baseline := 0
  source := .none
  lastRaw := 0
  lastCorrected := 0
  lastDelta := 0
  debounce := 0
  onTime := 0
  driftCount := 0
  invertedCount := 0
  outOfRange := 0
  faultCause := .none
  accumulator := 0
  samplesTaken := 0
  mark := .none

/-- A channel record after a full reset (R24). -/
def Channel.fullReset : Channel where
  config := .fullReset
  dyn := .cleared .off

/-- The settings after a full reset (R179, R186). -/
def Settings.fullReset : Settings where
  roundInterval := 20
  watchInterval := 4
  holdLimit := 50
  idleSenseDrive := .low
  referenceLevel := 3
  referenceLimit := 200
  noiseLimit := 8
  calibrationSamples := 8
  driftInterval := 16
  driftStep := 1
  invertedLimit := 40
  invertedRounds := 5
  maxOn := 1500
  autoRetire := 0
  attentionMask := 0x7FF#11

/-- The Reference Unit after every reset (R141). -/
def Reference.afterReset : Reference where
  state := .unset
  baseline := 0
  offset := 0
  noiseCount := 0

/-- The Scan Controller after a full reset (R142, R163). -/
def Scan.fullReset : Scan where
  mode := .paused
  round := .idle
  roundTimer := .stopped
  watchTimer := .stopped
  holdTimer := .stopped
  counter := 0

/-- The place of an event in every status event mask (R186). -/
def StatusEvent.position : StatusEvent → Nat
  | .resetDone => 0
  | .woken => 1
  | .channelFault => 2
  | .rebaselined => 3
  | .referenceRecaptured => 4
  | .referenceFault => 5
  | .zoneDropped => 6
  | .liftExpired => 7
  | .holdTimeout => 8
  | .roundOverrun => 9
  | .measureDone => 10

/-- The set holding one event. -/
def EventSet.only (e : StatusEvent) : EventSet := 1#11 <<< e.position

/-- The NO_REQUEST reply (R173). -/
def Reply.noRequest : Reply where
  status := .noRequest
  payload := []

/-- An OK reply with an empty payload (R185). -/
def Reply.okEmpty : Reply where
  status := .ok
  payload := []

/-- The Host Port after a reset that leaves `reply` in the buffer (R183). -/
def Port.afterReset (reply : Reply) : Port where
  frame := []
  frameCount := 0
  reply := reply
  executing := false
  sdaLow := false
  timeoutRunning := false

end Sys2Proof.Machine
end

