-- ==== Sys2Proof/Machine/State.lean ====
section
/-! DEFINITION. The state of the part, the reasons a command can stop, and the state after reset. -/

namespace Sys2Proof.Machine

/-- A fault: the part stops. No rule of the spec stops the part, so there is no constructor: no
command raises a fault, and that is safe. -/
inductive Fault where
deriving DecidableEq, Repr

/-- A command without a meaning. -/
inductive Refusal where
  /-- Raised by `exec` for a command whose row has no meaning yet; safe. No arm of this model raises
  it. -/
  | notModelled (mnemonic : String)
deriving DecidableEq, Repr

/-- Everything the part keeps, its pins, and the queue of commands that wait. -/
structure State where
  /-- The commands that wait, first in first out: the model's own field (DESIGN CHOICE, safe: log
  entries 3 and 16). -/
  pending : List Instr
  /-- Supply and reset in progress (R180 to R182). -/
  power : Power
  /-- RSTN is low (R182). -/
  rstnLow : Bool
  /-- HOLD is asserted (R120). -/
  hold : Bool
  /-- ADSEL was high when last sampled (R165). -/
  adselHigh : Bool
  /-- ATTN is asserted, that is, driven low (R106, R107). -/
  attn : Bool
  /-- The Host Port (R165 to R175). -/
  port : Port
  /-- What the last transaction showed the host: the model's own field (DESIGN CHOICE, safe: log
  entry 8). -/
  bus : BusView
  /-- The settings record (R178). -/
  settings : Settings
  /-- The Channel Table (R1). -/
  channels : Vector Channel 32
  /-- The Zone Table; `none` is a FREE zone (R43). -/
  zones : Vector (Option Zone) 16
  /-- The Contact Table, oldest first (R66). -/
  contacts : List Contact
  /-- The next-id counter (R67). -/
  nextId : Nat
  /-- The status event set (R100). -/
  events : EventSet
  /-- The last reset cause (R103). -/
  resetCause : ResetCause
  /-- The Reference Unit (R129). -/
  reference : Reference
  /-- The current conversion; `none` while the converter is IDLE (R109). -/
  converter : Option Conversion
  /-- The Scan Controller's waiting claim (R118, R119). -/
  scanClaim : Option Target
  /-- The measurement slot (R121). -/
  slot : Slot
  /-- The measurement's hold-limit timer (R124). -/
  slotTimer : HoldTimer
  /-- The drive of each electrode pin now (R114, R115). -/
  drive : Vector PinDrive 32
  /-- The Scan Controller (R142). -/
  scan : Scan
  /-- How many times the supply has fallen, the argument of the free values: the model's own field
  (DESIGN CHOICE, safe: log entry 2). -/
  supplyFalls : Nat
deriving DecidableEq, Repr

/-- The part right after a power-on reset has completed (R181), with RSTN high, HOLD released and
ADSEL low (DESIGN CHOICE, unsafe: log entry 1). -/
def State.reset : State where
  pending := []
  power := .running
  rstnLow := false
  hold := false
  adselHigh := false
  attn := true
  port := .afterReset .noRequest
  bus := .ignored
  settings := .fullReset
  channels := Table.const 32 .fullReset
  zones := Table.const 16 none
  contacts := []
  nextId := 1
  events := .only .resetDone
  resetCause := .power
  reference := .afterReset
  converter := none
  scanClaim := none
  slot := .none
  slotTimer := .stopped
  drive := Table.const 32 .highImpedance
  scan := .fullReset
  supplyFalls := 0

end Sys2Proof.Machine
end

