-- ==== Sys2Proof/Machine/Channels.lean ====
section
/-! DEFINITION. The Channel Table: the sample event, the channel state machine, calibration, baseline
tracking and leave marks (R12 to R42, R137). -/

namespace Sys2Proof.Machine

/-- The class of a raw count (R111, R13). -/
def rangeClass (raw : Nat) : RangeClass :=
  if raw ≤ 15 then .low else if 4080 ≤ raw then .high else .inRange

/-- The fault cause that a class gives (R14). -/
def RangeClass.faultCause : RangeClass → FaultCause
  | .inRange => .none
  | .low => .low
  | .high => .high

/-- TOUCHED or RELEASING: the channel counts as touched (R22). -/
def ChannelState.isTouched : ChannelState → Bool
  | .touched => true
  | .releasing => true
  | .off => false
  | .calibrating => false
  | .quiet => false
  | .arming => false
  | .fault => false

/-! ### Leave marks (R23) -/

/-- Precedence of the marks: FAULT, then STUCK, then RECALIBRATED (R23). -/
def LeaveMark.rank : LeaveMark → Nat
  | .none => 0
  | .recalibrated => 1
  | .stuck => 2
  | .fault => 3

/-- Of two marks, the one that comes first in the precedence (R23, R60). -/
def LeaveMark.merge (held new : LeaveMark) : LeaveMark :=
  if held.rank < new.rank then new else held

/-- The mark a channel holds after an event that takes it out of touch with mark `new`: set under the
precedence when its state before was TOUCHED or RELEASING, else unchanged (R23). -/
def markOnLeaving (d : ChannelDynamics) (new : LeaveMark) : LeaveMark :=
  if d.state.isTouched then d.mark.merge new else d.mark

/-! ### The corrected count (R137) -/

/-- A whole number brought into `0..4095`. -/
def clampCount (x : Int) : Nat := (max 0 (min 4095 x)).toNat

/-- The corrected count: the raw count less `trunc(offset × weight / 16)`, clamped (R137). -/
def correctedCount (offset : Int) (weight raw : Nat) : Nat :=
  clampCount ((raw : Int) - (offset * (weight : Int)).tdiv 16)

/-! ### Outcomes of a sample event -/

/-- What a sample event leaves: the dynamic fields and the status event it raises, if any. -/
structure SampleOutcome where
  dyn : ChannelDynamics
  raised : Option StatusEvent
deriving DecidableEq, Repr

/-- An outcome that raises nothing. -/
def quietOutcome (d : ChannelDynamics) : SampleOutcome := { dyn := d, raised := none }

/-- Entry into FAULT, the out-of-range count having reached 3 (R14). -/
def enterFault (cause : FaultCause) (d : ChannelDynamics) : ChannelDynamics :=
  { d with
    faultCause := cause
    mark := markOnLeaving d .fault
    state := .fault
    debounce := 0
    onTime := 0
    driftCount := 0
    invertedCount := 0
    accumulator := 0
    samplesTaken := 0
    outOfRange := 3 }

/-- An out-of-range sample (R13, R14). -/
def outOfRangeSample (cause : FaultCause) (raw : Nat) (d : ChannelDynamics) : SampleOutcome :=
  let d1 := { d with lastRaw := raw, outOfRange := d.outOfRange + 1 }
  if 3 ≤ d1.outOfRange then { dyn := enterFault cause d1, raised := some .channelFault }
  else quietOutcome d1

/-- Entry into TOUCHED (R16, R17, R35). -/
def enterTouched (d : ChannelDynamics) : ChannelDynamics :=
  { d with state := .touched, debounce := 0, onTime := 0, driftCount := 0, invertedCount := 0 }

/-- Entry into QUIET from a state other than QUIET (R18, R35). -/
def enterQuiet (d : ChannelDynamics) : ChannelDynamics :=
  { d with state := .quiet, debounce := 0, onTime := 0, driftCount := 0, invertedCount := 0 }

/-- The calibration step (R30). -/
def calibrationStep (g : Settings) (corrected : Nat) (d : ChannelDynamics) : SampleOutcome :=
  let sum := d.accumulator + corrected
  let taken := d.samplesTaken + 1
  if g.calibrationSamples ≤ taken then
    quietOutcome
      { d with
        baseline := sum / taken
        source := .calibrated
        lastDelta := (corrected : Int) - ((sum / taken : Nat) : Int)
        state := .quiet
        accumulator := 0
        samplesTaken := 0
        debounce := 0
        onTime := 0
        driftCount := 0
        invertedCount := 0 }
  else quietOutcome { d with accumulator := sum, samplesTaken := taken }

/-- The baseline moved toward the corrected count by the drift step or the size of the difference,
whichever is smaller (R36). -/
def driftedBaseline (step corrected baseline : Nat) : Nat :=
  if baseline < corrected then baseline + min step (corrected - baseline)
  else baseline - min step (baseline - corrected)

/-- A drift-eligible sample: the drift count, and the drift step when it reaches the interval (R35 to
R37). -/
def driftStep (g : Settings) (corrected : Nat) (d : ChannelDynamics) : SampleOutcome :=
  let count := d.driftCount + 1
  if g.driftInterval ≤ count then
    if corrected = d.baseline then quietOutcome { d with driftCount := 0, invertedCount := 0 }
    else
      let baseline := driftedBaseline g.driftStep corrected d.baseline
      quietOutcome
        { d with
          driftCount := 0
          invertedCount := 0
          baseline := baseline
          source := .drifted
          lastDelta := (corrected : Int) - (baseline : Int) }
  else quietOutcome { d with driftCount := count, invertedCount := 0 }

/-- An inverted sample: the inverted count, and the re-baseline when it reaches the setting (R37,
R38). -/
def invertedStep (g : Settings) (corrected : Nat) (d : ChannelDynamics) : SampleOutcome :=
  let count := d.invertedCount + 1
  if g.invertedRounds ≤ count then
    { dyn :=
        { d with
          baseline := corrected
          source := .inverted
          lastDelta := 0
          invertedCount := 0
          driftCount := 0 }
      raised := some .rebaselined }
  else quietOutcome { d with invertedCount := count }

/-- The QUIET handler (R16, R35 to R38). -/
def quietHandler (c : ChannelConfig) (g : Settings) (corrected : Nat) (delta : Int)
    (d : ChannelDynamics) : SampleOutcome :=
  if (c.touchThreshold : Int) ≤ delta then
    if c.debounceIn ≤ 1 then quietOutcome (enterTouched d)
    else
      quietOutcome
        { d with state := .arming, debounce := 1, driftCount := 0, invertedCount := 0 }
  else if delta ≤ -(g.invertedLimit : Int) then invertedStep g corrected { d with debounce := 0 }
  else driftStep g corrected { d with debounce := 0 }

/-- The ARMING handler (R17). -/
def armingHandler (c : ChannelConfig) (delta : Int) (d : ChannelDynamics) : SampleOutcome :=
  if (c.touchThreshold : Int) ≤ delta then
    if c.debounceIn ≤ d.debounce + 1 then quietOutcome (enterTouched d)
    else quietOutcome { d with debounce := d.debounce + 1 }
  else quietOutcome (enterQuiet d)

/-- Stuck recalibration (R39). -/
def stuckRecalibration (corrected : Nat) (d : ChannelDynamics) : ChannelDynamics :=
  { d with
    baseline := corrected
    source := .stuck
    lastDelta := 0
    state := .quiet
    debounce := 0
    onTime := 0
    driftCount := 0
    invertedCount := 0
    mark := markOnLeaving d .stuck }

/-- The threshold test in TOUCHED (R19). -/
def touchedTest (c : ChannelConfig) (delta : Int) (d : ChannelDynamics) : ChannelDynamics :=
  if delta < (c.releaseThreshold : Int) then
    if c.debounceOut ≤ 1 then enterQuiet d else { d with state := .releasing, debounce := 1 }
  else { d with debounce := 0 }

/-- The threshold test in RELEASING (R20). -/
def releasingTest (c : ChannelConfig) (delta : Int) (d : ChannelDynamics) : ChannelDynamics :=
  if delta < (c.releaseThreshold : Int) then
    if c.debounceOut ≤ d.debounce + 1 then enterQuiet d else { d with debounce := d.debounce + 1 }
  else { d with state := .touched, debounce := 0 }

/-- A sample that finds the channel in touch: the on-time, the stuck test, then the threshold test
given (R18, R39). -/
def touchHandler (g : Settings) (corrected : Nat)
    (test : ChannelDynamics → ChannelDynamics) (d : ChannelDynamics) : SampleOutcome :=
  let d1 := { d with onTime := min 65535 (d.onTime + 1) }
  if g.maxOn ≠ 0 ∧ g.maxOn ≤ d1.onTime then
    { dyn := stuckRecalibration corrected d1, raised := some .rebaselined }
  else quietOutcome (test d1)

/-- The handler of step 4 of R15 for the channel's present state. OFF and FAULT get no sample
(R21). -/
def stateHandler (c : ChannelConfig) (g : Settings) (corrected : Nat) (delta : Int)
    (d : ChannelDynamics) : SampleOutcome :=
  match d.state with
  | .calibrating => calibrationStep g corrected d
  | .quiet => quietHandler c g corrected delta d
  | .arming => armingHandler c delta d
  | .touched => touchHandler g corrected (touchedTest c delta) d
  | .releasing => touchHandler g corrected (releasingTest c delta) d
  | .off => quietOutcome d
  | .fault => quietOutcome d

/-- Steps 1 to 3 of R15: the fields an in-range sample writes before the handler. They are written in
CALIBRATING too, as R15 says, for R29 speaks of what happens outside sample events (DEDUCED, unsafe: log
entry 17). -/
def takeInRange (raw corrected : Nat) (d : ChannelDynamics) : ChannelDynamics :=
  { d with
    lastRaw := raw
    outOfRange := 0
    lastCorrected := corrected
    lastDelta := (corrected : Int) - (d.baseline : Int) }

/-- An in-range sample (R15). -/
def inRangeSample (c : ChannelConfig) (g : Settings) (offset : Int) (raw : Nat)
    (d : ChannelDynamics) : SampleOutcome :=
  let corrected := correctedCount offset c.referenceWeight raw
  stateHandler c g corrected ((corrected : Int) - (d.baseline : Int)) (takeInRange raw corrected d)

/-- A sample event on a channel in sensing (R12, R13, R15). -/
def appliedSample (c : ChannelConfig) (g : Settings) (offset : Int) (raw : Nat)
    (d : ChannelDynamics) : SampleOutcome :=
  match rangeClass raw with
  | .inRange => inRangeSample c g offset raw d
  | .low => outOfRangeSample .low raw d
  | .high => outOfRangeSample .high raw d

/-- A sample event (R12). A channel in OFF or FAULT gets no sample (R21; DEDUCED, safe: log entry 12). -/
def sampleEvent (g : Settings) (offset : Int) (raw : Nat) (c : Channel) : SampleOutcome :=
  match c.dyn.state with
  | .off => quietOutcome c.dyn
  | .fault => quietOutcome c.dyn
  | .calibrating => appliedSample c.config g offset raw c.dyn
  | .quiet => appliedSample c.config g offset raw c.dyn
  | .arming => appliedSample c.config g offset raw c.dyn
  | .touched => appliedSample c.config g offset raw c.dyn
  | .releasing => appliedSample c.config g offset raw c.dyn

/-! ### What the requests do to a record -/

/-- The start of a recalibration by CALIBRATE or by a change of level: the baseline, its source, the last
counts and the last delta stay (R9, R29, R32; log entry 17). -/
def startCalibration (d : ChannelDynamics) : ChannelDynamics :=
  { d with
    state := .calibrating
    accumulator := 0
    samplesTaken := 0
    debounce := 0
    onTime := 0
    driftCount := 0
    invertedCount := 0
    outOfRange := 0
    faultCause := .none
    mark := markOnLeaving d .recalibrated }

/-- A change of role (R5). -/
def changeRole (role : Role) (c : Channel) : Channel :=
  match c.config.role, role with
  | .sense, .sense => c
  | _, .sense => { config := { c.config with role := .sense }, dyn := .cleared .calibrating }
  | _, r => { config := { c.config with role := r }, dyn := .cleared .off }

/-- The forcing of an unwatched touched channel to QUIET at WATCH entry (R158). -/
def quietUnwatched (c : Channel) : Channel :=
  if c.config.role = .sense ∧ c.config.watch = false ∧
      (c.dyn.state = .arming ∨ c.dyn.state = .touched ∨ c.dyn.state = .releasing) then
    { c with dyn := { c.dyn with state := .quiet, debounce := 0, onTime := 0 } }
  else c

/-- A channel record after a scan reset (R25). -/
def scanResetChannel (c : Channel) : Channel :=
  { c with dyn := .cleared (if c.config.role = .sense then .calibrating else .off) }

/-- The mark-clearing stage for one record (R83). -/
def clearMark (c : Channel) : Channel := { c with dyn := { c.dyn with mark := .none } }

end Sys2Proof.Machine
end

