-- ==== Sys2Proof/Machine/Zones.lean ====
section
/-! DEFINITION. The Zone Table: what a zone reads from its members, position, the move test (R53 to
R60). -/

namespace Sys2Proof.Machine

/-- A DEFINED zone is touched when a member is (R53). -/
def zoneTouched (channels : Vector Channel 32) (z : Zone) : Bool :=
  z.members.any fun m => (Table.read channels m).dyn.state.isTouched

/-- A member's contribution: its clipped last delta, or 0 in CALIBRATING or FAULT (R54). A member is
never OFF (R45); an OFF record's last delta is 0 (R1). -/
def contribution (c : Channel) : Nat :=
  match c.dyn.state with
  | .calibrating => 0
  | .fault => 0
  | .off => 0
  | .quiet => c.dyn.lastDelta.toNat
  | .arming => c.dyn.lastDelta.toNat
  | .touched => c.dyn.lastDelta.toNat
  | .releasing => c.dyn.lastDelta.toNat

/-- The contributions `d(0)..d(n−1)` in list order (R54). -/
def contributions (channels : Vector Channel 32) (z : Zone) : List Nat :=
  z.members.map fun m => contribution (Table.read channels m)

/-- The largest contribution (R54). -/
def strengthOf (d : List Nat) : Nat := d.foldr max 0

/-- The leave mark of highest precedence held by a member (R60). -/
def leaveSummary (channels : Vector Channel 32) (z : Zone) : LeaveMark :=
  z.members.foldl (fun held m => held.merge (Table.read channels m).dyn.mark) .none

/-- The peak: the lowest place with the largest contribution (R55). -/
def peakOf (d : List Nat) : Nat := d.idxOf (strengthOf d)

/-- The contribution before place `k`; on a slider 0 outside the list, on a wheel the wrap (R55). -/
def before (kind : ZoneKind) (d : List Nat) (k : Nat) : Nat :=
  match kind with
  | .wheel => d.getD ((k + d.length - 1) % d.length) 0
  | .slider => if k = 0 then 0 else d.getD (k - 1) 0
  | .button => 0

/-- The contribution after place `k` (R55). -/
def after (kind : ZoneKind) (d : List Nat) (k : Nat) : Nat :=
  match kind with
  | .wheel => d.getD ((k + 1) % d.length) 0
  | .slider => d.getD (k + 1) 0
  | .button => 0

/-- The three-point sum Σ about the peak (R55). -/
def threePointSum (kind : ZoneKind) (d : List Nat) : Nat :=
  before kind d (peakOf d) + d.getD (peakOf d) 0 + after kind d (peakOf d)

/-- The fraction `num / den` (`den` above 0) rounded to nearest, halves upward (R55). -/
def roundHalfUp (num : Int) (den : Nat) : Int := (2 * num + (den : Int)) / (2 * (den : Int))

/-- `Σ × (k + offset)`: the numerator of `k + offset` over Σ (R55). -/
def scaledPeak (kind : ZoneKind) (d : List Nat) : Int :=
  (peakOf d * threePointSum kind d : Nat)
    + ((after kind d (peakOf d) : Int) - (before kind d (peakOf d) : Int))

/-- The position of a slider of `n` members with Σ not 0 (R56). -/
def sliderPosition (d : List Nat) : Nat :=
  (max 0 (min 1023
    (roundHalfUp (1023 * scaledPeak .slider d)
      (threePointSum .slider d * (d.length - 1))))).toNat

/-- The position of a wheel of `n` members with Σ not 0 (R57). -/
def wheelPosition (d : List Nat) : Nat :=
  (roundHalfUp (1024 * scaledPeak .wheel d) (threePointSum .wheel d * d.length) % 1024).toNat

/-- The position of a zone: none on a button, the contact's position as it stood or the centre of
member 0 when Σ is 0 (R55 to R58). -/
def zonePosition (kind : ZoneKind) (d : List Nat) (previous : Option Nat) : Option Nat :=
  match kind with
  | .button => none
  | .slider => some (if threePointSum .slider d = 0 then previous.getD 0 else sliderPosition d)
  | .wheel => some (if threePointSum .wheel d = 0 then previous.getD 0 else wheelPosition d)

/-- The distance of two positions: linear on a slider, circular on a wheel (R59). -/
def moveDistance (kind : ZoneKind) (a b : Nat) : Nat :=
  let size := max a b - min a b
  match kind with
  | .wheel => min size (1024 - size)
  | .slider => size
  | .button => 0

/-- The move test (R59). -/
def moveRecorded (kind : ZoneKind) (threshold reported position : Nat) : Bool :=
  moveDistance kind reported position ≠ 0 && threshold ≤ moveDistance kind reported position

/-- The lift cause that a leave summary gives (R81). -/
def liftCauseOf : LeaveMark → LiftCause
  | .none => .released
  | .stuck => .stuck
  | .fault => .fault
  | .recalibrated => .recalibrated

/-- A zone after a scan reset: its definition stays (R46). -/
def scanResetZone (z : Zone) : Zone := { z with current := none, pending := false, dropped := false }

end Sys2Proof.Machine
end

