-- ==== Sys2Proof/Machine/Contacts.lean ====
section
/-! DEFINITION. Contact records: recording a change, lifting, ageing, expiry, ids and acknowledgement
(R63 to R99). -/

namespace Sys2Proof.Machine

/-! ### Recording a change (R87) -/

/-- A change set with one change more (R87). -/
def ChangeSet.add (s : ChangeSet) : Change → ChangeSet
  | .appeared => { s with appeared := true }
  | .moved => { s with moved := true }
  | .lifted => { s with lifted := true }

/-- The empty change set. -/
def ChangeSet.empty : ChangeSet := { appeared := false, moved := false, lifted := false }

/-- The change set holds nothing. -/
def ChangeSet.isEmpty (s : ChangeSet) : Bool := !s.appeared && !s.moved && !s.lifted

/-- The reported position takes the position when MOVED is recorded (R87). -/
def reportTravel (change : Change) (t : Option Travel) : Option Travel :=
  match change with
  | .moved => t.map fun p => { p with reported := p.position }
  | .appeared => t
  | .lifted => t

/-- Recording a change on a record (R87). -/
def recordChange (change : Change) (c : Contact) : Contact :=
  { c with
    changes := c.changes.add change
    revision := (c.revision + 1) % 256
    travel := reportTravel change c.travel }

/-- The lift of a record, at a resolution or by DELETE ZONE (R81, R50). -/
def liftContact (cause : LiftCause) (c : Contact) : Contact :=
  { recordChange .lifted c with state := .lifted cause 0 }

/-- The state is LIFTED. -/
def ContactState.isLifted : ContactState → Bool
  | .lifted _ _ => true
  | .down => false
  | .held => false

/-- The record that carries an id. -/
def findContact (id : Nat) (cs : List Contact) : Option Contact := cs.find? fun c => c.id == id

/-- The table with the record that carries `id` changed. -/
def updateContact (id : Nat) (f : Contact → Contact) (cs : List Contact) : List Contact :=
  cs.map fun c => if c.id = id then f c else c

/-! ### Ageing and expiry (R75, R76) -/

/-- The ageing of one record (R65, R75). -/
def ageContact (c : Contact) : Contact :=
  match c.state with
  | .down => { c with age := min 65535 (c.age + 1) }
  | .held => { c with age := min 65535 (c.age + 1) }
  | .lifted cause age => { c with state := .lifted cause (min 255 (age + 1)) }

/-- The record is LIFTED with a lift age at or above a non-zero auto-retire (R76). -/
def expires (autoRetire : Nat) (c : Contact) : Bool :=
  match c.state with
  | .lifted _ age => autoRetire != 0 && autoRetire ≤ age
  | .down => false
  | .held => false

/-! ### Ids (R67) -/

/-- The value after an id, with 255 followed by 1 (R67). -/
def idAfter (id : Nat) : Nat := if 255 ≤ id then 1 else id + 1

/-- The first candidate from `candidate` on that no live record carries, trying `fuel` of them
(R67). -/
def freeIdFrom (cs : List Contact) : Nat → Nat → Nat
  | 0, candidate => candidate
  | fuel + 1, candidate =>
    if cs.any fun c => c.id == candidate then freeIdFrom cs fuel (idAfter candidate)
    else candidate

/-- The id for a new record (R67): a table of `n` records passes over at most `n` candidates. -/
def freeId (cs : List Contact) (nextId : Nat) : Nat := freeIdFrom cs cs.length nextId

/-! ### Update and creation (R78, R79) -/

/-- The update of a current contact by a touched zone (R78, R59). -/
def updateByZone (channels : Vector Channel 32) (z : Zone) (c : Contact) : Contact :=
  let d := contributions channels z
  let c1 := { c with strength := strengthOf d }
  match c.travel with
  | none => c1
  | some t =>
    match zonePosition z.kind d (some t.position) with
    | none => c1
    | some p =>
      let c2 := { c1 with travel := some { t with position := p } }
      if moveRecorded z.kind z.moveThreshold t.reported p then recordChange .moved c2 else c2

/-- The record made for a touched zone (R79). -/
def newContact (channels : Vector Channel 32) (id : Nat) (zone : Fin 16) (z : Zone) : Contact :=
  let d := contributions channels z
  recordChange .appeared
    { id := id
      zone := zone
      state := .down
      changes := .empty
      revision := 0
      travel := (zonePosition z.kind d none).map fun p => { position := p, reported := p }
      strength := strengthOf d
      age := 0 }

/-! ### Acknowledgement (R93 to R99) -/

/-- The outcome of one pair (R93). -/
inductive AckOutcome where
  | done | newer | noContact
deriving DecidableEq, Repr

/-- The outcome codes of R188. -/
def AckOutcome.code : AckOutcome → Byte
  | .done => 1#8
  | .newer => 2#8
  | .noContact => 3#8

/-- A record after a DONE outcome, for a record that stays (R96). -/
def acknowledged (c : Contact) : Contact :=
  { c with
    changes := .empty
    state := match c.state with
      | .down => .held
      | .held => .held
      | .lifted cause age => .lifted cause age }

/-- The outcome of a pair against the table (R94 to R96). -/
def ackOutcome (id revision : Nat) (cs : List Contact) : AckOutcome :=
  match findContact id cs with
  | none => .noContact
  | some c => if c.revision = revision then .done else .newer

/-- The table after a pair (R94 to R96). -/
def ackPair (id revision : Nat) (cs : List Contact) : List Contact :=
  match findContact id cs with
  | none => cs
  | some c =>
    if c.revision = revision then
      if c.state.isLifted then cs.filter fun x => x.id != id else updateContact id acknowledged cs
    else cs

/-- A list of pairs in order, each judged against the table the pairs before it left (R93, R99). -/
def ackList : List (Byte × Byte) → List Contact → List AckOutcome × List Contact
  | [], cs => ([], cs)
  | p :: rest, cs =>
    let r := ackList rest (ackPair p.1.toNat p.2.toNat cs)
    (ackOutcome p.1.toNat p.2.toNat cs :: r.1, r.2)

end Sys2Proof.Machine
end

