-- ==== Sys2Proof/Machine/Frame.lean ====
section
/-! DEFINITION. Request frames and reply frames: the check byte, the codes, the operand layouts, the
judgement of a frame and the reading of one (R167 to R171, R184 to R187). -/

namespace Sys2Proof.Machine

/-! ### Numbers as bytes (R184) -/

/-- A number in one byte. -/
def byteOf (n : Nat) : Byte := BitVec.ofNat 8 n

/-- A number in two bytes, least significant first (R184). -/
def wordBytes (n : Nat) : List Byte := [byteOf n, byteOf (n / 256)]

/-- A signed number in two bytes, two's complement, least significant first (R184). -/
def signedBytes (d : Int) : List Byte := wordBytes (d % 65536).toNat

/-- A mask of two bytes (R184). -/
def maskBytes (m : BitVec 16) : List Byte := wordBytes m.toNat

/-- A flag as 0 or 1. -/
def flagByte (b : Bool) : Byte := if b then 1#8 else 0#8

/-- The 16-bit number of two bytes, the first the least significant. -/
def wordOf (low high : Byte) : BitVec 16 := high ++ low

/-! ### The check byte (R169) -/

/-- One shift of the CRC-8: 07h enters when the outgoing bit is 1. -/
def crcShift (v : Byte) : Byte := if v.msb then (v <<< 1) ^^^ 0x07#8 else v <<< 1

/-- The CRC-8 after one more byte. -/
def crcByte (crc b : Byte) : Byte := Nat.repeat crcShift 8 (crc ^^^ b)

/-- The CRC-8 of R169 over a list of bytes. -/
def crc8 (bytes : List Byte) : Byte := bytes.foldl crcByte 0#8

/-! ### Codes (R185) -/

/-- The status codes of R185. -/
def Status.code : Status → Byte
  | .ok => 0x00#8
  | .check => 0x01#8
  | .framing => 0x02#8
  | .unknown => 0x03#8
  | .length => 0x04#8
  | .range => 0x05#8
  | .state => 0x06#8
  | .inUse => 0x07#8
  | .role => 0x08#8
  | .busy => 0x09#8
  | .noRequest => 0x0A#8

/-- The bytes of a reply before its check byte. -/
def Reply.body (r : Reply) : List Byte := r.status.code :: byteOf r.payload.length :: r.payload

/-- The whole reply frame (R171). -/
def Reply.bytes (r : Reply) : List Byte := r.body ++ [crc8 r.body]

/-- What a read of `count` bytes returns: the reply frame from its status byte, FFh past its check
byte (R172). -/
def Reply.read (r : Reply) (count : Nat) : List Byte :=
  (List.range count).map fun i => r.bytes.getD i 0xFF#8

/-- How many bytes the part sends in a read: one for each byte the host clocks, the last one being the
first that the host does not acknowledge (R166). -/
def sentCount : List Bool → Nat
  | [] => 0
  | true :: acks => sentCount acks + 1
  | false :: _ => 1

/-- Whether a code byte names a request (R185). -/
def knownCode (code : Byte) : Bool :=
  [0x01#8, 0x02#8, 0x03#8, 0x04#8, 0x05#8, 0x10#8, 0x11#8, 0x20#8, 0x21#8, 0x22#8, 0x23#8,
    0x30#8, 0x31#8, 0x32#8, 0x40#8, 0x41#8, 0x42#8, 0x50#8, 0x51#8].contains code

/-- Whether an operand length is allowed for a code (R185). -/
def lengthAllowed (code : Byte) (len : Nat) : Bool :=
  match code.toNat with
  | 0x01 => len == 0
  | 0x02 => len == 0
  | 0x03 => len == 2
  | 0x04 => len == 1
  | 0x05 => len == 1
  | 0x10 => len == 0
  | 0x11 => len == 19
  | 0x20 => len == 1
  | 0x21 => len == 10
  | 0x22 => len == 2
  | 0x23 => len == 5
  | 0x30 => 4 ≤ len && len ≤ 11
  | 0x31 => len == 1
  | 0x32 => len == 1
  | 0x40 => len == 0
  | 0x41 => len == 0
  | 0x42 => 2 ≤ len && len ≤ 20 && len % 2 == 0
  | 0x50 => len == 2
  | 0x51 => len == 0
  | _ => false

/-! ### The operands of each request (R185 to R189) -/

/-- The 19 operand bytes of SET SETTINGS (R186). -/
def settingsOperandBytes (r : SettingsOperands) : List Byte :=
  [r.roundInterval, r.watchInterval, r.holdLimit, r.idleSenseDrive, r.referenceLevel]
    ++ maskBytes r.referenceLimit
    ++ [r.noiseLimit, r.calibrationSamples, r.driftInterval, r.driftStep]
    ++ maskBytes r.invertedLimit ++ [r.invertedRounds] ++ maskBytes r.maxOn ++ [r.autoRetire]
    ++ maskBytes r.attentionMask

/-- The nine operand bytes of SET CHANNEL after the index (R187). -/
def channelOperandBytes (r : ChannelOperands) : List Byte :=
  [r.level] ++ maskBytes r.touchThreshold ++ maskBytes r.releaseThreshold
    ++ [r.referenceWeight, r.watchFlag, r.debounceIn, r.debounceOut]

/-- The four bytes of a channel mask (R184). -/
def channelMaskBytes (m : BitVec 32) : List Byte :=
  [m.extractLsb' 0 8, m.extractLsb' 8 8, m.extractLsb' 16 8, m.extractLsb' 24 8]

/-- The code and operand bytes that carry a request; none for a command that is no request. -/
def requestBody : Instr → Option (Byte × List Byte)
  | .identify => some (0x01#8, [])
  | .getStatus => some (0x02#8, [])
  | .clearStatus mask => some (0x03#8, maskBytes mask)
  | .setModePaused => some (0x04#8, [0#8])
  | .setModeActive => some (0x04#8, [1#8])
  | .setModeWatch => some (0x04#8, [2#8])
  | .resetFull => some (0x05#8, [1#8])
  | .resetScan => some (0x05#8, [2#8])
  | .getSettings => some (0x10#8, [])
  | .setSettings record => some (0x11#8, settingsOperandBytes record)
  | .getChannel index => some (0x20#8, [index])
  | .setChannel index fields => some (0x21#8, index :: channelOperandBytes fields)
  | .setRole index role => some (0x22#8, [index, role])
  | .calibrate mask flag => some (0x23#8, channelMaskBytes mask ++ [flag])
  | .defineZone index kind threshold members => some (0x30#8, index :: kind :: threshold :: members)
  | .deleteZone index => some (0x31#8, [index])
  | .getZone index => some (0x32#8, [index])
  | .readContacts => some (0x40#8, [])
  | .readChanges => some (0x41#8, [])
  | .ackContacts pairs => some (0x42#8, pairs.flatMap fun p => [p.1, p.2])
  | .measure target level => some (0x50#8, [target, level])
  | .measureResult => some (0x51#8, [])
  | .powerOn => none
  | .startUpComplete _ => none
  | .rstnLow => none
  | .rstnRise _ => none
  | .holdAssert => none
  | .holdRelease => none
  | .requestFrame _ _ => none
  | .addressProbe _ => none
  | .replyRead _ _ => none
  | .busTimeout _ => none
  | .resetComplete _ => none
  | .conversionComplete _ => none
  | .roundTimerExpiry => none
  | .watchTimerExpiry => none
  | .roundHoldLimitExpiry => none
  | .measureHoldLimitExpiry => none
  | .supplyFall => none

/-- The bytes of a frame with a code and operands, check byte included (R167, R185). -/
def frameBytes (code : Byte) (operands : List Byte) : List Byte :=
  let body := code :: byteOf operands.length :: operands
  body ++ [crc8 body]

/-- The request frame that carries a request; empty for a command that is no request. -/
def requestFrameOf (c : Instr) : List Byte :=
  match requestBody c with
  | some (code, operands) => frameBytes code operands
  | none => []

/-! ### Receiving and judging a frame (R166, R168) -/

/-- The bytes of a write that the port stores: at most 67 (R166). -/
def storedBytes (bytes : List Byte) : List Byte := bytes.take 67

/-- The byte count of a write, which stops at 68 (R166). -/
def countedBytes (bytes : List Byte) : Nat := min bytes.length 68

/-- The judgement of R168 on the stored bytes and the count: the status of the first check that
fails, or none when all four pass. -/
def judgeStored (stored : List Byte) (count : Nat) : Option Status :=
  match stored with
  | code :: len :: rest =>
    if count < 3 || 64 < len.toNat || count != len.toNat + 3 then some .framing
    else if rest.getD len.toNat 0#8 != crc8 (code :: len :: rest.take len.toNat) then some .check
    else if !knownCode code then some .unknown
    else if !lengthAllowed code len.toNat then some .length
    else none
  | _ => some .framing

/-- The judgement of R168 on the data bytes of a write. -/
def judgeFrame (bytes : List Byte) : Option Status :=
  judgeStored (storedBytes bytes) (countedBytes bytes)

/-! ### Reading a request from a frame -/

/-- The pairs of ACK CONTACTS (R93, R188); none for an odd number of bytes. -/
def parsePairs : List Byte → Option (List (Byte × Byte))
  | [] => some []
  | [_] => none
  | i :: r :: rest => (parsePairs rest).map ((i, r) :: ·)

/-- The settings record of 19 operand bytes (R186). -/
def parseSettings : List Byte → Option SettingsOperands
  | [ri, wi, hl, isd, rl, rl0, rl1, nl, cs, di, ds, il0, il1, ir, mo0, mo1, ar, am0, am1] =>
    some { roundInterval := ri, watchInterval := wi, holdLimit := hl, idleSenseDrive := isd,
           referenceLevel := rl, referenceLimit := wordOf rl0 rl1, noiseLimit := nl,
           calibrationSamples := cs, driftInterval := di, driftStep := ds,
           invertedLimit := wordOf il0 il1, invertedRounds := ir, maxOn := wordOf mo0 mo1,
           autoRetire := ar, attentionMask := wordOf am0 am1 }
  | _ => none

/-- The request of a code without operands. -/
def parseBare (c : Instr) : List Byte → Option Instr
  | [] => some c
  | _ => none

/-- The request of a code with one operand byte. -/
def parseOne (f : Byte → Option Instr) : List Byte → Option Instr
  | [a] => f a
  | _ => none

/-- The request of a code with two operand bytes. -/
def parseTwo (f : Byte → Byte → Option Instr) : List Byte → Option Instr
  | [a, b] => f a b
  | _ => none

/-- SET MODE by its mode byte (R185). -/
def modeRequest (mode : Byte) : Option Instr :=
  if mode = 0#8 then some .setModePaused
  else if mode = 1#8 then some .setModeActive
  else if mode = 2#8 then some .setModeWatch
  else none

/-- RESET by its kind byte (R185). -/
def resetRequest (kind : Byte) : Option Instr :=
  if kind = 1#8 then some .resetFull else if kind = 2#8 then some .resetScan else none

/-- SET CHANNEL (R187). -/
def parseSetChannel : List Byte → Option Instr
  | [i, l, t0, t1, r0, r1, w, f, din, dout] =>
    some (.setChannel i { level := l, touchThreshold := wordOf t0 t1,
                          releaseThreshold := wordOf r0 r1, referenceWeight := w, watchFlag := f,
                          debounceIn := din, debounceOut := dout })
  | _ => none

/-- CALIBRATE (R187). -/
def parseCalibrate : List Byte → Option Instr
  | [m0, m1, m2, m3, f] => some (.calibrate (m3 ++ m2 ++ m1 ++ m0) f)
  | _ => none

/-- DEFINE ZONE (R187). -/
def parseDefineZone : List Byte → Option Instr
  | i :: k :: t :: members => some (.defineZone i k t members)
  | _ => none

/-- The request a code and its operands carry. None where they carry no request of the table: by
R168 that leaves, of the frames that pass, SET MODE with a mode above 2 and RESET with a kind other
than 1 or 2. -/
def parseRequest (code : Byte) (operands : List Byte) : Option Instr :=
  if code = 0x01#8 then parseBare .identify operands
  else if code = 0x02#8 then parseBare .getStatus operands
  else if code = 0x03#8 then parseTwo (fun m0 m1 => some (.clearStatus (wordOf m0 m1))) operands
  else if code = 0x04#8 then parseOne modeRequest operands
  else if code = 0x05#8 then parseOne resetRequest operands
  else if code = 0x10#8 then parseBare .getSettings operands
  else if code = 0x11#8 then (parseSettings operands).map .setSettings
  else if code = 0x20#8 then parseOne (fun i => some (.getChannel i)) operands
  else if code = 0x21#8 then parseSetChannel operands
  else if code = 0x22#8 then parseTwo (fun i r => some (.setRole i r)) operands
  else if code = 0x23#8 then parseCalibrate operands
  else if code = 0x30#8 then parseDefineZone operands
  else if code = 0x31#8 then parseOne (fun i => some (.deleteZone i)) operands
  else if code = 0x32#8 then parseOne (fun i => some (.getZone i)) operands
  else if code = 0x40#8 then parseBare .readContacts operands
  else if code = 0x41#8 then parseBare .readChanges operands
  else if code = 0x42#8 then (parsePairs operands).map .ackContacts
  else if code = 0x50#8 then parseTwo (fun t l => some (.measure t l)) operands
  else if code = 0x51#8 then parseBare .measureResult operands
  else none

/-- The request that a frame which passes R168 carries. -/
def parseFrame (stored : List Byte) : Option Instr :=
  match stored with
  | code :: len :: rest => parseRequest code (rest.take len.toNat)
  | _ => none

end Sys2Proof.Machine
end

