-- ==== Sys2Proof/Machine/Layouts.lean ====
section
/-! DEFINITION. The payloads of the replies, byte by byte (R176, R186 to R189). -/

namespace Sys2Proof.Machine

/-! ### Codes of the enumerations (R186 to R189) -/

def ScanMode.code : ScanMode → Byte
  | .paused => 0#8
  | .active => 1#8
  | .watch => 2#8

def ResetCause.code : ResetCause → Byte
  | .power => 1#8
  | .pin => 2#8
  | .full => 3#8
  | .scan => 4#8

def ReferenceState.code : ReferenceState → Byte
  | .unset => 0#8
  | .set => 1#8

def Slot.code : Slot → Byte
  | .none => 0#8
  | .queued _ _ => 1#8
  | .converting _ _ => 2#8
  | .done _ _ _ _ => 3#8
  | .heldOff _ _ => 4#8
  | .aborted => 5#8

def IdleDrive.code : IdleDrive → Byte
  | .low => 0#8
  | .guard => 1#8

def Role.code : Role → Byte
  | .parked => 0#8
  | .sense => 1#8
  | .guard => 2#8
  | .ground => 3#8

def ChannelState.code : ChannelState → Byte
  | .off => 0#8
  | .calibrating => 1#8
  | .quiet => 2#8
  | .arming => 3#8
  | .touched => 4#8
  | .releasing => 5#8
  | .fault => 6#8

def BaselineSource.code : BaselineSource → Byte
  | .none => 0#8
  | .calibrated => 1#8
  | .drifted => 2#8
  | .inverted => 3#8
  | .stuck => 4#8

def FaultCause.code : FaultCause → Byte
  | .none => 0#8
  | .low => 1#8
  | .high => 2#8

def LeaveMark.code : LeaveMark → Byte
  | .none => 0#8
  | .stuck => 1#8
  | .fault => 2#8
  | .recalibrated => 3#8

def ZoneKind.code : ZoneKind → Byte
  | .button => 1#8
  | .slider => 2#8
  | .wheel => 3#8

def LiftCause.code : LiftCause → Byte
  | .released => 1#8
  | .stuck => 2#8
  | .fault => 3#8
  | .recalibrated => 4#8
  | .zoneDeleted => 5#8

def RangeClass.code : RangeClass → Byte
  | .inRange => 0#8
  | .low => 1#8
  | .high => 2#8

/-- A target: 0..31 for a channel, 32 for REF (R189). -/
def Target.code : Target → Byte
  | .ref => 32#8
  | .channel i => byteOf i.val

/-! ### Payloads -/

/-- A set of status events as its two-byte mask (R186). -/
def eventBytes (e : EventSet) : List Byte := wordBytes e.toNat

/-- IDENTIFY (R176, R186). -/
def identifyPayload : List Byte := wordBytes 3210 ++ [0x41#8, byteOf 32, byteOf 16, byteOf 10]

/-- Whether a zone's pending flag is on; a FREE zone's is off (R43). -/
def zonePending : Option Zone → Bool
  | some z => z.pending
  | none => false

/-- The pending zone mask: bit `n` is Zn's pending flag (R104, R186). -/
def pendingMask (zones : Vector (Option Zone) 16) : Nat :=
  ((List.finRange 16).map fun i => if zonePending (Table.read zones i) then 2 ^ i.val else 0).sum

/-- GET STATUS (R104, R186). -/
def statusPayload (s : State) : List Byte :=
  [s.scan.mode.code, s.resetCause.code] ++ eventBytes s.events ++ wordBytes s.scan.counter
    ++ [byteOf s.contacts.length] ++ wordBytes (pendingMask s.zones)
    ++ [s.reference.state.code, s.slot.code]

/-- GET SETTINGS (R177, R186). -/
def settingsPayload (g : Settings) : List Byte :=
  [byteOf g.roundInterval, byteOf g.watchInterval, byteOf g.holdLimit, g.idleSenseDrive.code,
    byteOf g.referenceLevel]
    ++ wordBytes g.referenceLimit
    ++ [byteOf g.noiseLimit, byteOf g.calibrationSamples, byteOf g.driftInterval,
      byteOf g.driftStep]
    ++ wordBytes g.invertedLimit ++ [byteOf g.invertedRounds] ++ wordBytes g.maxOn
    ++ [byteOf g.autoRetire] ++ eventBytes g.attentionMask

/-- GET CHANNEL (R10, R187). -/
def channelPayload (index : Fin 32) (c : Channel) : List Byte :=
  [byteOf index.val, c.config.role.code, byteOf c.config.level]
    ++ wordBytes c.config.touchThreshold ++ wordBytes c.config.releaseThreshold
    ++ [byteOf c.config.referenceWeight, flagByte c.config.watch, byteOf c.config.debounceIn,
      byteOf c.config.debounceOut, c.dyn.state.code]
    ++ wordBytes c.dyn.baseline ++ [c.dyn.source.code] ++ wordBytes c.dyn.lastRaw
    ++ wordBytes c.dyn.lastCorrected ++ signedBytes c.dyn.lastDelta ++ [byteOf c.dyn.debounce]
    ++ wordBytes c.dyn.onTime
    ++ [byteOf c.dyn.driftCount, byteOf c.dyn.invertedCount, byteOf c.dyn.outOfRange,
      c.dyn.faultCause.code]
    ++ wordBytes c.dyn.accumulator ++ [byteOf c.dyn.samplesTaken, c.dyn.mark.code]

/-- GET ZONE (R52, R187): a FREE zone is its index and six zero bytes. -/
def zonePayload (index : Fin 16) : Option Zone → List Byte
  | none => [byteOf index.val, 0#8, 0#8, 0#8, 0#8, 0#8, 0#8]
  | some z =>
    [byteOf index.val, 1#8, z.kind.code, byteOf z.moveThreshold, byteOf (z.current.getD 0),
      flagByte z.pending ||| flagByte z.dropped <<< 1, byteOf z.members.length]
      ++ z.members.map fun m => byteOf m.val

/-- The state code in bits 0..1 of a contact entry's third byte (R188). -/
def ContactState.code : ContactState → Byte
  | .down => 1#8
  | .held => 2#8
  | .lifted _ _ => 3#8

/-- The change set byte of a contact entry (R188). -/
def ChangeSet.code (c : ChangeSet) : Byte :=
  flagByte c.appeared ||| flagByte c.moved <<< 1 ||| flagByte c.lifted <<< 2

/-- The position group of a contact entry (R188). -/
def travelBytes : Option Travel → List Byte
  | some t => wordBytes t.position
  | none => []

/-- The lift group of a contact entry (R188). -/
def liftBytes : ContactState → List Byte
  | .lifted cause age => [cause.code, byteOf age]
  | .down => []
  | .held => []

/-- One contact entry (R188). -/
def contactEntry (c : Contact) : List Byte :=
  [byteOf c.id, byteOf c.zone.val, c.state.code ||| flagByte c.travel.isSome <<< 7, c.changes.code,
    byteOf c.revision]
    ++ wordBytes c.strength ++ wordBytes c.age ++ travelBytes c.travel ++ liftBytes c.state

/-- READ CONTACTS and READ CHANGES: the count and the entries in list order (R90, R91, R188). -/
def contactsPayload (cs : List Contact) : List Byte :=
  byteOf cs.length :: cs.flatMap contactEntry

/-- MEASURE RESULT (R125, R189). -/
def slotPayload : Slot → List Byte
  | .none => [Slot.none.code]
  | .aborted => [Slot.aborted.code]
  | .queued t l => [(Slot.queued t l).code, t.code, byteOf l]
  | .converting t l => [(Slot.converting t l).code, t.code, byteOf l]
  | .heldOff t l => [(Slot.heldOff t l).code, t.code, byteOf l]
  | .done t l count range =>
    [(Slot.done t l count range).code, t.code, byteOf l] ++ wordBytes count ++ [range.code]

end Sys2Proof.Machine
end

