-- ==== Sys2Proof/Machine/Ops.lean ====
section
/-! DEFINITION. The operations the commands share: status events, ATTN, the electrode pins between
conversions, the transactions at the port and the hand-off of a request. -/

namespace Sys2Proof.Machine

/-! ### Status events (R100) -/

/-- Whether an event is in the set. -/
def EventSet.has (set : EventSet) (e : StatusEvent) : Bool := set.getLsbD e.position

/-- Raising a status event (R100). -/
def raise (e : StatusEvent) (s : State) : State := { s with events := s.events ||| EventSet.only e }

/-- Raising the event of a sample, if it raises one. -/
def raiseIfAny : Option StatusEvent → State → State
  | some e, s => raise e s
  | none, s => s

/-! ### ATTN (R106, R107) -/

/-- A live record has a change, or an enabled event is present (R106). -/
def attnWanted (s : State) : Bool :=
  (s.contacts.any fun c => !c.changes.isEmpty) || s.events &&& s.settings.attentionMask != 0#11

/-- ATTN judged from its inputs: by R106 while the part runs, released while a reset is in progress
(R107). An unpowered part is not judged. -/
def judgeAttn (s : State) : State :=
  match s.power with
  | .running => { s with attn := attnWanted s }
  | .unpowered => s
  | .powerOnReset _ => { s with attn := false }
  | .pinReset => { s with attn := false }
  | .requestedReset _ => { s with attn := false }

/-! ### Electrode pins between conversions (R115) -/

/-- The drive between conversions of a pin of a role (R115). -/
def idleDriveOf : Role → PinDrive
  | .parked => .highImpedance
  | .sense => .low
  | .guard => .low
  | .ground => .low

/-- Every pin at its drive between conversions (R115). -/
def idlePins (channels : Vector Channel 32) : Vector PinDrive 32 :=
  Table.build fun i => idleDriveOf (Table.read channels i).config.role

/-! ### Whether the part acts -/

/-- The blocks act on events: no power-on or pin reset holds them and the supply is up (R181,
R182; DEDUCED: log entry 14). -/
def blocksRun (s : State) : Bool :=
  match s.power with
  | .running => true
  | .requestedReset _ => true
  | .unpowered => false
  | .powerOnReset _ => false
  | .pinReset => false

/-- An event at the blocks, followed by ATTN; without effect while the blocks do not run. -/
def blockEvent (f : State → State) (s : State) : State :=
  if blocksRun s then judgeAttn (f s) else s

/-! ### The port -/

/-- The address ADSEL selects (R165). -/
def portAddress (s : State) : BitVec 7 := if s.adselHigh then 0x3B#7 else 0x3A#7

/-- The port takes part in transactions: no reset in progress and the executing flag off (R165). -/
def portReady (s : State) : Bool := s.power == .running && !s.port.executing

/-- The part acknowledges this address (R165). -/
def acknowledges (address : BitVec 7) (s : State) : Bool := portReady s && address == portAddress s

/-- What the transaction showed the host: the model's own record. -/
def showBus (view : BusView) (s : State) : State := { s with bus := view }

/-- What the end of a write shows of a transaction addressed at once: its address is acknowledged as any
is, so not while the executing flag is on (R165, R167). R167 speaks of a read alone; that a write is
judged alike is DEDUCED, safe: log entry 18. -/
def addressedAtOnce (ending : FrameEnd) (s : State) : Option Bool :=
  match ending with
  | .stop => none
  | .repeatedStart address => some (acknowledges address s)

/-- A reply written to the reply buffer at the end of a request: the executing flag goes off and no
frame is in hand (R170; DEDUCED, safe: log entry 13). -/
def answer (r : Reply) (s : State) : State :=
  { s with port := { s.port with reply := r, executing := false, frame := [], frameCount := 0 } }

/-- A refusal: an empty payload (R171). -/
def refuse (status : Status) (s : State) : State := answer { status := status, payload := [] } s

/-- An OK reply (R171). -/
def answerOk (payload : List Byte) (s : State) : State :=
  answer { status := .ok, payload := payload } s

/-- The end of a frame: it is in hand and the executing flag goes on (R167). -/
def holdFrame (bytes : List Byte) (s : State) : State :=
  { s with port := { s.port with
      frame := storedBytes bytes, frameCount := countedBytes bytes, executing := true } }

/-- The judgement of the frame in hand by R168. A refused one is answered; one that passes stays in
hand. A frame that passes and carries a mode above 2 or a reset kind other than 1 or 2 is answered
RANGE (R153, R180, R184; DEDUCED, safe: log entry 5). -/
def judgeHeld (bytes : List Byte) (s : State) : State :=
  match judgeFrame bytes with
  | some status => refuse status s
  | none =>
    match parseFrame (storedBytes bytes) with
    | none => refuse .range s
    | some _ => s

/-- The end of a write transaction addressed to the part that carried data (R167, R168). -/
def receiveFrame (bytes : List Byte) (s : State) : State := judgeHeld bytes (holdFrame bytes s)

/-- The hand-off of request `c` to the block that owns it, whose taking is `take` (R170). With the
executing flag on, the request in hand is taken if it is `c`. With it off, the command stands for the
whole exchange: a write of `c`'s frame, judged by R168, and then the hand-off. While a reset is in
progress or the supply is down no request is taken (R165). DESIGN CHOICE, safe: log entry 4. -/
def deliver (c : Instr) (take : State → State) (s : State) : State :=
  if s.power = .running then
    if s.port.executing then
      if parseFrame s.port.frame = some c then take s else s
    else
      match judgeFrame (requestFrameOf c) with
      | some status => refuse status (showBus (.written (requestFrameOf c).length) s)
      | none => take (showBus (.written (requestFrameOf c).length) s)
  else s

end Sys2Proof.Machine
end

