-- ==== Sys2Proof/Machine/Bus.lean ====
section
/-! DEFINITION. The meanings of the bus events: a write that ends, an address probe, a read, the bus
timeout (R165 to R175). -/

namespace Sys2Proof.Machine

/-- The bus timeout's effect on the port: SDA released, the bytes received so far discarded (R175). -/
def abandonTransaction (s : State) : State :=
  { s with port := { s.port with
      frame := [], frameCount := 0, sdaLow := false, timeoutRunning := false } }

/-- REQUEST_FRAME: a write to the part's address is received and judged, every data byte acknowledged;
one that the part does not acknowledge leaves the part as it was; one without a data byte is an address
probe (R165 to R168). A read that a repeated START addresses at once finds the executing flag on after
a frame, a refused one too (R167). That a write addressed at once finds the same (DEDUCED), and that a
read or a write by a later command finds the refusal given (DESIGN CHOICE), is log entry 18, safe. -/
def execRequestFrame (address : BitVec 7) (write : WriteTransaction) (s : State) :
    Host.Outcome State Fault Refusal :=
  if acknowledges address s then
    if write.bytes.isEmpty then
      .next (showBus { BusView.written 0 with addressedAtOnce := addressedAtOnce write.ending s } s)
    else
      .next
        (showBus
          { BusView.written write.bytes.length with
            addressedAtOnce := addressedAtOnce write.ending (holdFrame write.bytes s) }
          (receiveFrame write.bytes s))
  else .next (showBus { BusView.ignored with addressedAtOnce := addressedAtOnce write.ending s } s)

/-- ADDRESS_PROBE (R167). -/
def execAddressProbe (address : BitVec 7) (s : State) : Host.Outcome State Fault Refusal :=
  if acknowledges address s then .next (showBus (.written 0) s) else .next (showBus .ignored s)

/-- REPLY_READ (R166, R172). -/
def execReplyRead (address : BitVec 7) (acks : List Bool) (s : State) :
    Host.Outcome State Fault Refusal :=
  if acknowledges address s then
    .next (showBus (.answered (s.port.reply.read (sentCount acks))) s)
  else .next (showBus .ignored s)

/-- BUS_TIMEOUT: only a port that takes part in transactions has one to abandon (R174, R175). -/
def execBusTimeout (cut : CutTransaction) (s : State) : Host.Outcome State Fault Refusal :=
  if portReady s then
    match cut with
    | .write bytes => .next (showBus (.written bytes.length) (abandonTransaction s))
    | .read acks =>
      .next (showBus (.answered (s.port.reply.read (sentCount acks))) (abandonTransaction s))
  else .next s

end Sys2Proof.Machine
end

