-- ==== Sys2Proof/Machine/ContactRequests.lean ====
section
/-! DEFINITION. The meanings of the requests to the Contact Table: READ CONTACTS, READ CHANGES and ACK
CONTACTS (R90 to R99). -/

namespace Sys2Proof.Machine

/-- READ_CONTACTS (R90). -/
def execReadContacts (s : State) : Host.Outcome State Fault Refusal :=
  .next (deliver .readContacts (fun s => answerOk (contactsPayload s.contacts) s) s)

/-- The live records whose change set is not empty (R91). -/
def changedContacts (cs : List Contact) : List Contact := cs.filter fun c => !c.changes.isEmpty

/-- READ_CHANGES (R91). -/
def execReadChanges (s : State) : Host.Outcome State Fault Refusal :=
  .next (deliver .readChanges (fun s => answerOk (contactsPayload (changedContacts s.contacts)) s) s)

/-- The payload of ACK CONTACTS: the number of pairs and their outcomes (R93, R188). -/
def ackPayload (outcomes : List AckOutcome) : List Byte :=
  byteOf outcomes.length :: outcomes.map AckOutcome.code

/-- The taking of ACK CONTACTS (R93). -/
def takeAckContacts (pairs : List (Byte × Byte)) (s : State) : State :=
  let r := ackList pairs s.contacts
  answerOk (ackPayload r.1) (judgeAttn { s with contacts := r.2 })

/-- ACK_CONTACTS (R93). -/
def execAckContacts (pairs : List (Byte × Byte)) (s : State) : Host.Outcome State Fault Refusal :=
  .next (deliver (.ackContacts pairs) (takeAckContacts pairs) s)

end Sys2Proof.Machine
end

