-- ==== Sys2Proof/Machine/ChannelRequests.lean ====
section
/-! DEFINITION. The meanings of the requests to the Channel Table: GET CHANNEL, SET CHANNEL, SET ROLE
and CALIBRATE (R1 to R11, R32 to R34). -/

namespace Sys2Proof.Machine

/-- The channel an index byte names: none above 31 (R1). -/
def channelOf (index : Byte) : Option (Fin 32) :=
  if h : index.toNat < 32 then some ⟨index.toNat, h⟩ else none

/-- The role a code names (R187). -/
def roleOf (code : Byte) : Option Role :=
  match code.toNat with
  | 0 => some .parked
  | 1 => some .sense
  | 2 => some .guard
  | 3 => some .ground
  | _ => none

/-- The taking of GET CHANNEL (R10). -/
def takeGetChannel (index : Byte) (s : State) : State :=
  match channelOf index with
  | some i => answerOk (channelPayload i (Table.read s.channels i)) s
  | none => refuse .range s

/-- GET_CHANNEL (R10). -/
def execGetChannel (index : Byte) (s : State) : Host.Outcome State Fault Refusal :=
  .next (deliver (.getChannel index) (takeGetChannel index) s)

/-! ### SET CHANNEL (R7 to R9) -/

/-- The fields of SET CHANNEL are in range (R7). -/
def channelFieldsValid (f : ChannelOperands) : Bool :=
  f.level.toNat ≤ 7
    && 1 ≤ f.touchThreshold.toNat && f.touchThreshold.toNat ≤ 1023
    && f.releaseThreshold.toNat ≤ 1022
    && f.releaseThreshold.toNat < f.touchThreshold.toNat
    && f.referenceWeight.toNat ≤ 16
    && f.watchFlag.toNat ≤ 1
    && 1 ≤ f.debounceIn.toNat && f.debounceIn.toNat ≤ 15
    && 1 ≤ f.debounceOut.toNat && f.debounceOut.toNat ≤ 15

/-- The configuration with the seven fields written and the role kept (R7). -/
def configOf (role : Role) (f : ChannelOperands) : ChannelConfig where
  role := role
  level := f.level.toNat
  touchThreshold := f.touchThreshold.toNat
  releaseThreshold := f.releaseThreshold.toNat
  referenceWeight := f.referenceWeight.toNat
  watch := f.watchFlag = 1#8
  debounceIn := f.debounceIn.toNat
  debounceOut := f.debounceOut.toNat

/-- A record after a valid SET CHANNEL: a SENSE channel whose level changes is recalibrated (R7,
R9). -/
def reconfigure (f : ChannelOperands) (c : Channel) : Channel where
  config := configOf c.config.role f
  dyn :=
    if c.config.role = .sense ∧ c.config.level ≠ f.level.toNat then startCalibration c.dyn
    else c.dyn

/-- The taking of SET CHANNEL (R7). -/
def takeSetChannel (index : Byte) (f : ChannelOperands) (s : State) : State :=
  match channelOf index, channelFieldsValid f with
  | some i, true =>
    answerOk []
      { s with channels := Table.write s.channels i (reconfigure f (Table.read s.channels i)) }
  | some _, false => refuse .range s
  | none, _ => refuse .range s

/-- SET_CHANNEL (R7). -/
def execSetChannel (index : Byte) (f : ChannelOperands) (s : State) :
    Host.Outcome State Fault Refusal :=
  .next (deliver (.setChannel index f) (takeSetChannel index f) s)

/-! ### SET ROLE (R5, R6) -/

/-- The channel is a member of the zone; a FREE zone has none (R43). -/
def zoneHas (i : Fin 32) : Option Zone → Bool
  | some z => z.members.contains i
  | none => false

/-- The channel is a member of a DEFINED zone (R5, R45). -/
def isMember (i : Fin 32) (s : State) : Bool := Table.anyAt (fun _ z => zoneHas i z) s.zones

/-- A SCAN conversion of the channel loses its role when the channel is left other than SENSE (R6,
R113). -/
def loseRole (i : Fin 32) (role : Role) (cv : Conversion) : Conversion :=
  if cv.claimant = .scan ∧ cv.target = .channel i ∧ role ≠ .sense then { cv with roleLost := true }
  else cv

/-- The pin of a channel after a change of its role: at once while the converter is IDLE, else when
the conversion ends (R115). -/
def pinsAfterRole (i : Fin 32) (role : Role) (s : State) : Vector PinDrive 32 :=
  match s.converter with
  | none => Table.write s.drive i (idleDriveOf role)
  | some _ => s.drive

/-- The effect of an accepted SET ROLE (R5, R6, R115). -/
def applyRole (i : Fin 32) (role : Role) (s : State) : State :=
  { s with
    channels := Table.write s.channels i (changeRole role (Table.read s.channels i))
    converter := s.converter.map (loseRole i role)
    drive := pinsAfterRole i role s }

/-- The taking of SET ROLE (R5). -/
def takeSetRole (index role : Byte) (s : State) : State :=
  match channelOf index, roleOf role with
  | some i, some r =>
    if isMember i s ∧ r ≠ .sense then refuse .inUse s else answerOk [] (applyRole i r s)
  | some _, none => refuse .range s
  | none, _ => refuse .range s

/-- SET_ROLE (R5). -/
def execSetRole (index role : Byte) (s : State) : Host.Outcome State Fault Refusal :=
  .next (deliver (.setRole index role) (takeSetRole index role) s)

/-! ### CALIBRATE (R32 to R34) -/

/-- The mask names the channel and its role is SENSE (R32). -/
def calibrates (mask : BitVec 32) (i : Fin 32) (c : Channel) : Bool :=
  mask.getLsbD i.val && c.config.role == .sense

/-- A record after CALIBRATE (R32). -/
def calibrateChannel (mask : BitVec 32) (i : Fin 32) (c : Channel) : Channel :=
  if calibrates mask i c then { c with dyn := startCalibration c.dyn } else c

/-- The Reference Unit after CALIBRATE: the flag on makes it UNSET with noise count 0 (R34). -/
def calibrateReference (on : Bool) (r : Reference) : Reference :=
  if on then { r with state := .unset, noiseCount := 0 } else r

/-- The taking of CALIBRATE (R32, R34). -/
def takeCalibrate (mask : BitVec 32) (flag : Byte) (s : State) : State :=
  if 1 < flag.toNat then refuse .range s
  else
    answerOk [byteOf (Table.countAt (calibrates mask) s.channels)]
      { s with
        channels := Table.mapAt (calibrateChannel mask) s.channels
        reference := calibrateReference (flag = 1#8) s.reference }

/-- CALIBRATE (R32). -/
def execCalibrate (mask : BitVec 32) (flag : Byte) (s : State) : Host.Outcome State Fault Refusal :=
  .next (deliver (.calibrate mask flag) (takeCalibrate mask flag) s)

end Sys2Proof.Machine
end

