-- ==== Sys2Proof/Machine/Conversions.lean ====
section
/-! DEFINITION. The converter, the arbiter, the electrode drive of a conversion, and the reference
sample (R109 to R136). -/

namespace Sys2Proof.Machine

/-! ### Electrode drive during a conversion (R114, R115) -/

/-- The drive of a pin during a conversion of electrode `target` (R114). -/
def sensingDrive (idle : IdleDrive) (target : Fin 32) (pin : Fin 32) (role : Role) : PinDrive :=
  if pin = target then .sensed
  else
    match role with
    | .guard => .targetWaveform
    | .ground => .low
    | .parked => .highImpedance
    | .sense => match idle with
      | .low => .low
      | .guard => .targetWaveform

/-- Every pin's drive during a conversion of a target (R114, R115). -/
def pinsFor (target : Target) (s : State) : Vector PinDrive 32 :=
  match target with
  | .ref => idlePins s.channels
  | .channel t =>
    Table.build fun i =>
      sensingDrive s.settings.idleSenseDrive t i (Table.read s.channels i).config.role

/-! ### The arbiter (R118) -/

/-- The conversion time at a level, in µs (R110). -/
def conversionTime (level : Nat) : Nat := 64 * 2 ^ level

/-- The level a SCAN conversion starts at (R110). -/
def scanLevel (target : Target) (s : State) : Nat :=
  match target with
  | .ref => s.settings.referenceLevel
  | .channel i => (Table.read s.channels i).config.level

/-- Role lost as it is formed at the grant (R109). -/
def roleLostAtGrant (target : Target) (s : State) : Bool :=
  match target with
  | .ref => false
  | .channel i => (Table.read s.channels i).config.role != .sense

/-- The grant of the host's claim: the slot becomes CONVERTING (R123). -/
def grantHost (target : Target) (level : Nat) (s : State) : State :=
  { s with
    slot := .converting target level
    drive := pinsFor target s
    converter := some
      { claimant := .host, target := target, level := level, durationUs := conversionTime level,
        held := false, roleLost := false, ofRound := false } }

/-- The grant of the Scan Controller's claim (R109, R119). -/
def grantScan (target : Target) (s : State) : State :=
  { s with
    scanClaim := none
    drive := pinsFor target s
    converter := some
      { claimant := .scan, target := target, level := scanLevel target s,
        durationUs := conversionTime (scanLevel target s), held := false,
        roleLost := roleLostAtGrant target s, ofRound := true } }

/-- The arbiter: with the converter IDLE and HOLD released, a waiting claim is granted, the host's
first (R118). -/
def grant (s : State) : State :=
  if s.converter.isSome || s.hold then s
  else
    match s.slot, s.scanClaim with
    | .queued target level, _ => grantHost target level s
    | _, some target => grantScan target s
    | _, none => s

/-! ### The reference sample (R131 to R136) -/

/-- What a reference sample leaves (R132 to R136). -/
structure ReferenceOutcome where
  reference : Reference
  verdict : Verdict
  raised : Option StatusEvent
deriving DecidableEq, Repr

/-- A capture or a recapture: the count becomes the baseline (R133, R135). -/
def capturedReference (raw : Nat) : Reference :=
  { state := .set, baseline := raw, offset := 0, noiseCount := 0 }

/-- An in-range reference sample that finds SET (R134, R135). -/
def judgeOffset (g : Settings) (raw : Nat) (r : Reference) : ReferenceOutcome :=
  let offset := (raw : Int) - (r.baseline : Int)
  if offset.natAbs ≤ g.referenceLimit then
    { reference := { r with offset := offset, noiseCount := 0 }, verdict := .proceed,
      raised := none }
  else if g.noiseLimit ≤ r.noiseCount + 1 then
    { reference := capturedReference raw, verdict := .proceed,
      raised := some .referenceRecaptured }
  else
    { reference := { r with noiseCount := r.noiseCount + 1 }, verdict := .noise, raised := none }

/-- An in-range reference sample (R133 to R135). -/
def judgeInRangeReference (g : Settings) (raw : Nat) (r : Reference) : ReferenceOutcome :=
  match r.state with
  | .unset => { reference := capturedReference raw, verdict := .proceed, raised := none }
  | .set => judgeOffset g raw r

/-- A reference sample (R132 to R135). -/
def judgeReference (g : Settings) (raw : Nat) (r : Reference) : ReferenceOutcome :=
  match rangeClass raw with
  | .low => { reference := r, verdict := .noise, raised := some .referenceFault }
  | .high => { reference := r, verdict := .noise, raised := some .referenceFault }
  | .inRange => judgeInRangeReference g raw r

/-- The reference sample applied to the part. -/
def applyReference (raw : Nat) (s : State) : State :=
  let o := judgeReference s.settings raw s.reference
  raiseIfAny o.raised { s with reference := o.reference }

/-- The verdict of the reference sample on the round (R136). -/
def referenceVerdict (raw : Nat) (s : State) : Verdict :=
  (judgeReference s.settings raw s.reference).verdict

/-! ### The sample event applied to the part (R12) -/

/-- A kept channel count becomes a sample event (R12, R112). -/
def applySample (i : Fin 32) (raw : Nat) (s : State) : State :=
  let c := Table.read s.channels i
  let o := sampleEvent s.settings s.reference.offset raw c
  raiseIfAny o.raised { s with channels := Table.write s.channels i { c with dyn := o.dyn } }

/-! ### The end of a host conversion (R123) -/

/-- The completion of a HOST conversion: a kept count makes a CONVERTING slot DONE, a held one returns
it to QUEUED; a slot that is not CONVERTING is handed nothing (R123, R124; DEDUCED, safe: log entry 11). -/
def finishHost (cv : Conversion) (raw : Nat) (s : State) : State :=
  match s.slot with
  | .converting target level =>
    if cv.held then { s with slot := .queued target level }
    else
      raise .measureDone
        { s with slot := .done target level raw (rangeClass raw), slotTimer := .stopped }
  | .none => s
  | .queued _ _ => s
  | .done _ _ _ _ => s
  | .heldOff _ _ => s
  | .aborted => s

/-- The start of the measurement's hold-limit timer where R124 starts it: the slot waits or converts
while HOLD is asserted. -/
def startSlotTimer (s : State) : State :=
  match s.slot with
  | .queued _ _ => { s with slotTimer := .running s.settings.holdLimit }
  | .converting _ _ => { s with slotTimer := .running s.settings.holdLimit }
  | .none => s
  | .done _ _ _ _ => s
  | .heldOff _ _ => s
  | .aborted => s

end Sys2Proof.Machine
end

