-- ==== Sys2Proof/Machine/MeasureRequests.lean ====
section
/-! DEFINITION. The meanings of the host's measurement requests: MEASURE and MEASURE RESULT (R121 to
R126). -/

namespace Sys2Proof.Machine

/-- The target a byte names: 0..31 a channel, 32 REF (R122). -/
def targetOf (code : Byte) : Option Target :=
  if code = 32#8 then some .ref else (channelOf code).map .channel

/-- A measurement is outstanding (R122). -/
def Slot.isOutstanding : Slot → Bool
  | .queued _ _ => true
  | .converting _ _ => true
  | .none => false
  | .done _ _ _ _ => false
  | .heldOff _ _ => false
  | .aborted => false

/-- The slot QUEUED, its hold-limit timer started if HOLD is asserted (R122, R124). -/
def queueMeasurement (target : Target) (level : Nat) (s : State) : State :=
  let s1 := { s with slot := .queued target level }
  if s.hold then startSlotTimer s1 else s1

/-- The taking of MEASURE (R122). -/
def takeMeasure (target level : Byte) (s : State) : State :=
  match targetOf target, decide (level.toNat ≤ 7) with
  | some t, true =>
    if s.slot.isOutstanding then refuse .busy s
    else answerOk [] (grant (queueMeasurement t level.toNat s))
  | some _, false => refuse .range s
  | none, _ => refuse .range s

/-- MEASURE (R122). -/
def execMeasure (target level : Byte) (s : State) : Host.Outcome State Fault Refusal :=
  .next (deliver (.measure target level) (takeMeasure target level) s)

/-- MEASURE_RESULT (R125). -/
def execMeasureResult (s : State) : Host.Outcome State Fault Refusal :=
  .next (deliver .measureResult (fun s => answerOk (slotPayload s.slot) s) s)

end Sys2Proof.Machine
end

