-- ==== Sys2Proof/Machine/Rounds.lean ====
section
/-! DEFINITION. Scan rounds: start, channel turns, round end, round-end processing, the wake check,
abandonment and the completion of a conversion (R73 to R83, R112, R143 to R161). -/

namespace Sys2Proof.Machine

/-! ### Round-end processing (R73 to R83) -/

/-- Stage 1, ageing (R75). -/
def ageingStage (s : State) : State := { s with contacts := s.contacts.map ageContact }

/-- Stage 2, expiry (R76). -/
def expiryStage (s : State) : State :=
  let kept := s.contacts.filter fun c => !expires s.settings.autoRetire c
  if s.contacts.any (expires s.settings.autoRetire) then
    raise .liftExpired { s with contacts := kept }
  else s

/-- The Zone Table with record `i` set to a DEFINED zone. -/
def setZone (i : Fin 16) (z : Zone) (s : State) : State :=
  { s with zones := Table.write s.zones i (some z) }

/-- A record made for a touched zone that has none, or the zone set pending (R79, R80). -/
def serveZone (i : Fin 16) (z : Zone) (s : State) : State :=
  if s.contacts.length < 10 then
    let id := freeId s.contacts s.nextId
    setZone i { z with current := some id, pending := false, dropped := false }
      { s with
        contacts := s.contacts ++ [newContact s.channels id i z]
        nextId := idAfter id }
  else setZone i { z with pending := true } s

/-- The lift of a zone's current contact at a resolution (R81). -/
def liftZone (i : Fin 16) (z : Zone) (id : Nat) (s : State) : State :=
  setZone i { z with current := none }
    { s with
      contacts :=
        updateContact id (liftContact (liftCauseOf (leaveSummary s.channels z))) s.contacts }

/-- The loss of a waiting touch (R82). -/
def dropZone (i : Fin 16) (z : Zone) (s : State) : State :=
  raise .zoneDropped (setZone i { z with pending := false, dropped := true } s)

/-- The resolution of one DEFINED zone (R77). -/
def resolveDefined (i : Fin 16) (z : Zone) (s : State) : State :=
  match zoneTouched s.channels z, z.current with
  | true, some id => { s with contacts := updateContact id (updateByZone s.channels z) s.contacts }
  | true, none => serveZone i z s
  | false, some id => liftZone i z id s
  | false, none => if z.pending then dropZone i z s else s

/-- The resolution of one zone record; a FREE zone is not resolved (R60). -/
def resolveZone (s : State) (i : Fin 16) : State :=
  match Table.read s.zones i with
  | some z => resolveDefined i z s
  | none => s

/-- Stage 3, zone resolution in ascending index (R77). -/
def resolutionStage (s : State) : State := (List.finRange 16).foldl resolveZone s

/-- Stage 4, mark clearing (R83). -/
def markClearing (s : State) : State :=
  { s with channels := Table.mapAt (fun _ c => clearMark c) s.channels }

/-- Round-end processing: the four stages in order (R73). -/
def roundEndProcessing (s : State) : State :=
  markClearing (resolutionStage (expiryStage (ageingStage s)))

/-! ### Timers (R148) -/

/-- The round timer started afresh (R148). -/
def startRoundTimer (s : State) : State :=
  { s with scan := { s.scan with roundTimer := .running s.settings.roundInterval } }

/-- The watch timer started afresh: its setting is in units of 50 ms (R148). -/
def startWatchTimer (s : State) : State :=
  { s with scan := { s.scan with watchTimer := .running (50 * s.settings.watchInterval) } }

/-! ### Round start (R143) -/

/-- The start of a round of a kind (R143). -/
def startRound (kind : RoundKind) (s : State) : State :=
  { s with
    scanClaim := some .ref
    scan := { s.scan with
      round := .running { kind := kind, phase := .reference, last := none }
      roundTimer := match kind with
        | .active => .running s.settings.roundInterval
        | .watch => .stopped
      watchTimer := match kind with
        | .active => .stopped
        | .watch => .running (50 * s.settings.watchInterval)
      holdTimer := if s.hold then .running s.settings.holdLimit else s.scan.holdTimer } }

/-- The start condition of R148: round state IDLE and the timer of the present mode EXPIRED. -/
def startIfDue (s : State) : State :=
  match s.scan.round, s.scan.mode with
  | .idle, .active => if s.scan.roundTimer = .expired then startRound .active s else s
  | .idle, .watch => if s.scan.watchTimer = .expired then startRound .watch s else s
  | _, _ => s

/-! ### Channel turns (R145) -/

/-- Whether a channel qualifies for a turn in a round of a kind (R145). -/
def qualifies (kind : RoundKind) (c : Channel) : Bool :=
  c.config.role == .sense && c.dyn.state != .fault &&
    match kind with
    | .active => true
    | .watch => c.config.watch

/-- The channel is numbered above the last one handled (R145). -/
def aboveLast (last : Option (Fin 32)) (i : Fin 32) : Bool :=
  match last with
  | none => true
  | some l => l.val < i.val

/-- The channel of the next turn, if one qualifies (R145). -/
def nextChannel (round : Round) (channels : Vector Channel 32) : Option (Fin 32) :=
  (List.finRange 32).find? fun i =>
    aboveLast round.last i && qualifies round.kind (Table.read channels i)

/-! ### Round end (R147 to R152, R159) -/

/-- The timer of a round's kind (R149). -/
def timerOfKind (kind : RoundKind) (s : State) : Timer :=
  match kind with
  | .active => s.scan.roundTimer
  | .watch => s.scan.watchTimer

/-- Some channel of role SENSE with its watch flag on is TOUCHED (R159). -/
def watchedTouched (s : State) : Bool :=
  Table.anyAt
    (fun _ c => c.config.role == .sense && c.config.watch && c.dyn.state == .touched) s.channels

/-- The wake check (R159). -/
def wakeCheck (s : State) : State :=
  if watchedTouched s then
    startRound .active
      (raise .woken { s with scan := { s.scan with mode := .active, watchTimer := .stopped } })
  else s

/-- The counter, the hold-limit timer, the overrun and the round state at a round end (R147, R149,
R150). -/
def closeRound (kind : RoundKind) (s : State) : State :=
  let s1 :=
    { s with scan := { s.scan with
        counter := (s.scan.counter + 1) % 65536, holdTimer := .stopped, round := .idle } }
  if timerOfKind kind s = .expired then raise .roundOverrun s1 else s1

/-- What a completed round passes on (R147, R151, R152). -/
def passOn (kind : RoundKind) (verdict : Verdict) (s : State) : State :=
  match verdict, kind with
  | .noise, _ => s
  | .proceed, .active => roundEndProcessing s
  | .proceed, .watch => wakeCheck s

/-- The end of a completed round, with the round that starts at once where one does (R147, R148). -/
def completeRound (kind : RoundKind) (verdict : Verdict) (s : State) : State :=
  startIfDue (passOn kind verdict (closeRound kind s))

/-- A channel turn (R145): the next qualifying channel is claimed, or the round ends. -/
def channelTurn (round : Round) (s : State) : State :=
  match nextChannel round s.channels with
  | some i =>
    { s with
      scanClaim := some (.channel i)
      scan := { s.scan with
        round := .running { kind := round.kind, phase := .channels, last := some i } } }
  | none => completeRound round.kind .proceed s

/-! ### Abandonment (R154, R156, R158) -/

/-- What follows once the round state is free of the old round after a change of mode: the forcing to
QUIET at WATCH entry, and the new mode's first round (R154, R156, R158). -/
def enterMode (s : State) : State :=
  match s.scan.mode with
  | .paused => s
  | .active => startRound .active s
  | .watch => startIfDue { s with channels := Table.mapAt (fun _ c => quietUnwatched c) s.channels }

/-- The end of an abandonment (R154). -/
def endAbandonment (s : State) : State :=
  enterMode { s with scan := { s.scan with round := .idle } }

/-! ### The Scan Controller told of a completion (R112, R144, R146, R154, R161) -/

/-- The Scan Controller claims a target again (R119). -/
def claimAgain (target : Target) (s : State) : State := { s with scanClaim := some target }

/-- The round told of its reference sample's verdict (R144, R154). -/
def roundAfterReference (verdict : Verdict) (s : State) : State :=
  match s.scan.round with
  | .running round =>
    match verdict with
    | .proceed => channelTurn round s
    | .noise => completeRound round.kind .noise s
  | .closing _ => endAbandonment s
  | .idle => s
  | .holdWait => s

/-- The round told that a channel's count was kept or its role lost (R146, R154). -/
def roundAfterChannel (s : State) : State :=
  match s.scan.round with
  | .running round => channelTurn round s
  | .closing _ => endAbandonment s
  | .idle => s
  | .holdWait => s

/-- The round told that a conversion was discarded because held (R119, R146, R154). -/
def roundAfterHeld (target : Target) (s : State) : State :=
  match s.scan.round with
  | .running round =>
    match target with
    | .ref => claimAgain .ref s
    | .channel i =>
      if qualifies round.kind (Table.read s.channels i) then claimAgain (.channel i) s
      else channelTurn round s
  | .closing _ => endAbandonment s
  | .idle => s
  | .holdWait => s

/-- Why a completing SCAN conversion is discarded, if it is; a lost role goes before HOLD (R113). -/
inductive Discard where
  | kept | held | roleLost
deriving DecidableEq, Repr

/-- The decision of R113 for a SCAN conversion; a REF conversion has no role to lose. -/
def discardOf (cv : Conversion) : Discard :=
  if cv.roleLost ∧ cv.target ≠ .ref then .roleLost else if cv.held then .held else .kept

/-- The hand-off of a SCAN conversion's outcome; the Scan Controller acts on it only while the
conversion is of its round (R112, R161). -/
def finishScan (cv : Conversion) (raw : Nat) (s : State) : State :=
  match discardOf cv, cv.target with
  | .kept, .ref =>
    if cv.ofRound then roundAfterReference (referenceVerdict raw s) (applyReference raw s)
    else applyReference raw s
  | .kept, .channel i =>
    if cv.ofRound then roundAfterChannel (applySample i raw s) else applySample i raw s
  | .held, target => if cv.ofRound then roundAfterHeld target s else s
  | .roleLost, _ => if cv.ofRound then roundAfterChannel s else s

/-- The converter IDLE and every pin at its drive between conversions (R112, R115). -/
def releaseConverter (s : State) : State :=
  { s with converter := none, drive := idlePins s.channels }

/-- A conversion reaches its completion time: the outcome is handed on and the arbiter's next grant
follows (R112, R118). With the converter IDLE nothing completes (DEDUCED, safe: log entry 6). -/
def completeConversion (raw : Nat) (s : State) : State :=
  match s.converter with
  | none => s
  | some cv =>
    match cv.claimant with
    | .host => grant (finishHost cv raw (releaseConverter s))
    | .scan => grant (finishScan cv raw (releaseConverter s))

/-! ### Changing the mode (R153 to R158) -/

/-- A scan conversion of the round in progress is in flight (R154). -/
def roundInFlight (s : State) : Bool :=
  match s.converter with
  | some cv => cv.claimant == .scan && cv.ofRound
  | none => false

/-- The abandonment that an accepted change of mode brings (R154, R153): a round with its conversion
in flight becomes CLOSING, one without ends at once, a hold wait ends. -/
def abandonForMode (s : State) : State :=
  match s.scan.round with
  | .running round =>
    if roundInFlight s then
      { s with scan := { s.scan with round := .closing round, holdTimer := .stopped } }
    else
      endAbandonment
        { s with scanClaim := none, scan := { s.scan with holdTimer := .stopped } }
  | .closing _ => s
  | .idle => endAbandonment s
  | .holdWait => endAbandonment s

/-- The mode written and the timers set for it (R155, R156, R158). -/
def writeMode (mode : ScanMode) (s : State) : State :=
  match mode with
  | .paused =>
    { s with scan := { s.scan with mode := .paused, roundTimer := .stopped,
                                    watchTimer := .stopped } }
  | .active => { s with scan := { s.scan with mode := .active, watchTimer := .stopped } }
  | .watch =>
    startWatchTimer { s with scan := { s.scan with mode := .watch, roundTimer := .stopped } }

/-- An accepted SET MODE that changes the mode, with the grant it may bring (R153 to R158). -/
def changeMode (mode : ScanMode) (s : State) : State := grant (abandonForMode (writeMode mode s))

/-- A zone with a current contact or a pending flag blocks WATCH (R157). -/
def zoneBlocksWatch : Option Zone → Bool
  | some z => z.current.isSome || z.pending
  | none => false

/-- Some zone blocks WATCH (R157). -/
def watchBlocked (s : State) : Bool := Table.anyAt (fun _ z => zoneBlocksWatch z) s.zones

/-! ### Hold timeout (R161) -/

/-- The timer of the present mode started afresh; PAUSED has none (R161). -/
def restartModeTimer (s : State) : State :=
  match s.scan.mode with
  | .paused => s
  | .active => startRoundTimer s
  | .watch => startWatchTimer s

/-- The end of a hold wait on the release of HOLD (R161). -/
def endHoldWait (s : State) : State :=
  match s.scan.round with
  | .holdWait => restartModeTimer { s with scan := { s.scan with round := .idle } }
  | .idle => s
  | .running _ => s
  | .closing _ => s

/-- The abandonment of the round in progress by hold timeout (R161). -/
def holdTimeout (s : State) : State :=
  raise .holdTimeout
    { s with
      scanClaim := none
      converter := s.converter.map fun cv =>
        if cv.claimant = .scan then { cv with ofRound := false } else cv
      scan := { s.scan with
        round := .holdWait, roundTimer := .stopped, watchTimer := .stopped,
        holdTimer := .stopped } }

end Sys2Proof.Machine
end

