-- ==== Sys2Proof/Machine/PartRequests.lean ====
section
/-! DEFINITION. The meanings of the requests to the part as a whole: identification, status, settings
and scan mode (R101, R104, R153 to R158, R176 to R179). -/

namespace Sys2Proof.Machine

/-- IDENTIFY (R176). -/
def execIdentify (s : State) : Host.Outcome State Fault Refusal :=
  .next (deliver .identify (answerOk identifyPayload) s)

/-- GET_STATUS (R104). -/
def execGetStatus (s : State) : Host.Outcome State Fault Refusal :=
  .next (deliver .getStatus (fun s => answerOk (statusPayload s) s) s)

/-- The taking of CLEAR STATUS: the named events leave the set, positions that name none are ignored
(R101). -/
def takeClearStatus (mask : BitVec 16) (s : State) : State :=
  let left := s.events &&& ~~~(mask.setWidth 11)
  answerOk (eventBytes left) (judgeAttn { s with events := left })

/-- CLEAR_STATUS (R101). -/
def execClearStatus (mask : BitVec 16) (s : State) : Host.Outcome State Fault Refusal :=
  .next (deliver (.clearStatus mask) (takeClearStatus mask) s)

/-- The taking of SET MODE: the present mode changes nothing, WATCH is refused while a zone blocks it,
any other changes the mode (R153, R157). -/
def takeSetMode (mode : ScanMode) (s : State) : State :=
  if s.scan.mode = mode then answerOk [] s
  else if mode = .watch ∧ watchBlocked s then refuse .state s
  else answerOk [] (changeMode mode s)

/-- SET_MODE_PAUSED (R155). -/
def execSetModePaused (s : State) : Host.Outcome State Fault Refusal :=
  .next (deliver .setModePaused (takeSetMode .paused) s)

/-- SET_MODE_ACTIVE (R156). -/
def execSetModeActive (s : State) : Host.Outcome State Fault Refusal :=
  .next (deliver .setModeActive (takeSetMode .active) s)

/-- SET_MODE_WATCH (R157, R158). -/
def execSetModeWatch (s : State) : Host.Outcome State Fault Refusal :=
  .next (deliver .setModeWatch (takeSetMode .watch) s)

/-- GET_SETTINGS (R177). -/
def execGetSettings (s : State) : Host.Outcome State Fault Refusal :=
  .next (deliver .getSettings (fun s => answerOk (settingsPayload s.settings) s) s)

/-- The validation of R178: true when no condition for RANGE holds. -/
def settingsValid (r : SettingsOperands) : Bool :=
  5 ≤ r.roundInterval.toNat && r.roundInterval.toNat ≤ 250
    && 1 ≤ r.watchInterval.toNat && r.watchInterval.toNat ≤ 40
    && r.holdLimit.toNat ≠ 0
    && r.idleSenseDrive.toNat ≤ 1
    && r.referenceLevel.toNat ≤ 7
    && 1 ≤ r.referenceLimit.toNat && r.referenceLimit.toNat ≤ 1023
    && r.noiseLimit.toNat ≠ 0
    && [4, 8, 16].contains r.calibrationSamples.toNat
    && r.driftInterval.toNat ≠ 0
    && 1 ≤ r.driftStep.toNat && r.driftStep.toNat ≤ 15
    && 1 ≤ r.invertedLimit.toNat && r.invertedLimit.toNat ≤ 1023
    && r.invertedRounds.toNat ≠ 0

/-- The fifteen settings that a record carries (R178, R186); attention mask positions that name no
event are dropped. -/
def settingsOf (r : SettingsOperands) : Settings where
  roundInterval := r.roundInterval.toNat
  watchInterval := r.watchInterval.toNat
  holdLimit := r.holdLimit.toNat
  idleSenseDrive := if r.idleSenseDrive = 0#8 then .low else .guard
  referenceLevel := r.referenceLevel.toNat
  referenceLimit := r.referenceLimit.toNat
  noiseLimit := r.noiseLimit.toNat
  calibrationSamples := r.calibrationSamples.toNat
  driftInterval := r.driftInterval.toNat
  driftStep := r.driftStep.toNat
  invertedLimit := r.invertedLimit.toNat
  invertedRounds := r.invertedRounds.toNat
  maxOn := r.maxOn.toNat
  autoRetire := r.autoRetire.toNat
  attentionMask := r.attentionMask.setWidth 11

/-- The taking of SET SETTINGS (R178, R179, R105). -/
def takeSetSettings (r : SettingsOperands) (s : State) : State :=
  if settingsValid r then answerOk [] (judgeAttn { s with settings := settingsOf r })
  else refuse .range s

/-- SET_SETTINGS (R178). -/
def execSetSettings (r : SettingsOperands) (s : State) : Host.Outcome State Fault Refusal :=
  .next (deliver (.setSettings r) (takeSetSettings r) s)

end Sys2Proof.Machine
end

