-- ==== Sys2Proof/Machine/Resets.lean ====
section
/-! DEFINITION. What a full reset and a scan reset do to the blocks, and the meanings of the supply,
reset and RSTN events (R107, R127, R128, R163 to R165, R180 to R183). -/

namespace Sys2Proof.Machine

/-- Every block in its full-reset state, the measurement slot left as given (R24, R46, R86, R100,
R127, R128, R141, R163, R178). -/
def fullResetBlocks (slot : Slot) (s : State) : State :=
  { s with
    settings := .fullReset
    channels := Table.const 32 .fullReset
    zones := Table.const 16 none
    contacts := []
    nextId := 1
    events := .only .resetDone
    reference := .afterReset
    converter := none
    scanClaim := none
    slot := slot
    slotTimer := .stopped
    drive := Table.const 32 .highImpedance
    scan := .fullReset }

/-- What a scan reset does to the blocks before it acts by mode (R25, R46, R86, R100, R127, R128,
R141, R164). -/
def scanResetBlocks (s : State) : State :=
  { s with
    channels := Table.mapAt (fun _ c => scanResetChannel c) s.channels
    zones := Table.mapAt (fun _ z => z.map scanResetZone) s.zones
    contacts := []
    nextId := 1
    events := .only .resetDone
    reference := .afterReset
    converter := none
    scanClaim := none
    slot := .aborted
    slotTimer := .stopped
    drive := idlePins s.channels
    scan := { s.scan with
      round := .idle, roundTimer := .stopped, watchTimer := .stopped, holdTimer := .stopped,
      counter := 0 } }

/-- The restart of the rounds by the mode kept (R164). -/
def restartByMode (s : State) : State :=
  match s.scan.mode with
  | .paused => s
  | .active => grant (startRound .active s)
  | .watch => startWatchTimer s

/-- The transaction in progress, and a request still executing, abandoned (R182, R183). -/
def dropTransaction (s : State) : State :=
  { s with port := { s.port with
      frame := [], frameCount := 0, executing := false, sdaLow := false, timeoutRunning := false } }

/-- The completion of a power-on or pin reset (R181 to R183). -/
def completeFullReset (cause : ResetCause) (adselHigh : Bool) (s : State) : State :=
  judgeAttn
    { fullResetBlocks .none s with
      power := .running
      adselHigh := adselHigh
      resetCause := cause
      port := .afterReset .noRequest }

/-- The start of a power-on reset: ATTN released, no address acknowledged, a running conversion
stopped, the pins at the drive of PARKED pins (R107, R127, R181; DEDUCED: log entry 14). -/
def startPowerOn (s : State) : State :=
  { dropTransaction s with
    power := .powerOnReset false
    attn := false
    converter := none
    scanClaim := none
    slotTimer := .stopped
    drive := Table.const 32 .highImpedance
    scan := { s.scan with holdTimer := .stopped } }

/-- The start of a pin reset: every block held in its full-reset state (R182). -/
def startPinReset (s : State) : State :=
  { dropTransaction (fullResetBlocks .none s) with
    power := .pinReset
    rstnLow := true
    attn := false }

/-- RESET in progress: the reply is in the buffer and the executing flag stays on until the reset
completes (R180). -/
def resetInProgress (kind : ResetKind) (cause : ResetCause) (s : State) : State :=
  { s with
    power := .requestedReset kind
    attn := false
    resetCause := cause
    port := { Port.afterReset .okEmpty with executing := true } }

/-- The taking of RESET FULL (R180). -/
def takeResetFull (s : State) : State := resetInProgress .full .full (fullResetBlocks .aborted s)

/-- The taking of RESET SCAN (R164, R180). -/
def takeResetScan (s : State) : State :=
  resetInProgress .scan .scan (restartByMode (scanResetBlocks s))

/-- ADSEL as sampled when a requested reset completes: after FULL only (R165). The level comes with the
command (DESIGN CHOICE, safe: log entry 7). -/
def adselAfter (kind : ResetKind) (level held : Bool) : Bool :=
  match kind with
  | .full => level
  | .scan => held

/-- What stands at the completion of a reset whatever came about while it was in progress: the Contact
Table empty with every zone's part in it, and the status event set at RESET_DONE alone (R86, R100, R107;
DEDUCED: log entry 14). -/
def resetStands (s : State) : State :=
  { s with
    contacts := []
    nextId := 1
    zones := Table.mapAt (fun _ z => z.map scanResetZone) s.zones
    events := .only .resetDone }

/-- The completion of a requested reset (R107, R180, R183). -/
def completeRequestedReset (kind : ResetKind) (adselHigh : Bool) (s : State) : State :=
  judgeAttn
    { dropTransaction (resetStands s) with
      power := .running
      adselHigh := adselAfter kind adselHigh s.adselHigh }

/-! ### Meanings -/

/-- POWER_ON (R181). -/
def execPowerOn (s : State) : Host.Outcome State Fault Refusal := .next (startPowerOn s)

/-- START_UP_COMPLETE: the power-on reset completes, or waits for RSTN to rise (R181). -/
def execStartUpComplete (adselHigh : Bool) (s : State) : Host.Outcome State Fault Refusal :=
  match s.power with
  | .powerOnReset _ =>
    if s.rstnLow then .next { s with power := .powerOnReset true }
    else .next (completeFullReset .power adselHigh s)
  | .unpowered => .next s
  | .pinReset => .next s
  | .requestedReset _ => .next s
  | .running => .next s

/-- RSTN_LOW: a pin reset, or, without supply or within a power-on reset, the pin's level alone (R181,
R182). -/
def execRstnLow (s : State) : Host.Outcome State Fault Refusal :=
  match s.power with
  | .running => .next (startPinReset s)
  | .requestedReset _ => .next (startPinReset s)
  | .pinReset => .next { s with rstnLow := true }
  | .powerOnReset _ => .next { s with rstnLow := true }
  | .unpowered => .next { s with rstnLow := true }

/-- RSTN_RISE: the pin reset completes, or the power-on reset that waited for it (R181, R182). -/
def execRstnRise (adselHigh : Bool) (s : State) : Host.Outcome State Fault Refusal :=
  if s.rstnLow then
    let s1 := { s with rstnLow := false }
    match s.power with
    | .pinReset => .next (completeFullReset .pin adselHigh s1)
    | .powerOnReset true => .next (completeFullReset .power adselHigh s1)
    | .powerOnReset false => .next s1
    | .requestedReset _ => .next s1
    | .running => .next s1
    | .unpowered => .next s1
  else .next s

/-- RESET_FULL (R180). -/
def execResetFull (s : State) : Host.Outcome State Fault Refusal :=
  .next (deliver .resetFull takeResetFull s)

/-- RESET_SCAN (R164, R180). -/
def execResetScan (s : State) : Host.Outcome State Fault Refusal :=
  .next (deliver .resetScan takeResetScan s)

/-- RESET_COMPLETE (R180). -/
def execResetComplete (adselHigh : Bool) (s : State) : Host.Outcome State Fault Refusal :=
  match s.power with
  | .requestedReset kind => .next (completeRequestedReset kind adselHigh s)
  | .running => .next s
  | .unpowered => .next s
  | .powerOnReset _ => .next s
  | .pinReset => .next s

/-- SUPPLY_FALL: the part is without supply; the levels it leaves at its outputs are free values
(R181; DESIGN CHOICE: log entry 2). -/
def execSupplyFall (s : State) : Host.Outcome State Fault Refusal :=
  .next
    { s with
      power := .unpowered
      attn := Config.unpoweredAttn s.supplyFalls
      drive := Table.build fun i => Config.unpoweredPin s.supplyFalls i.val
      supplyFalls := s.supplyFalls + 1 }

end Sys2Proof.Machine
end

