-- ==== Sys2Proof/Machine/SenseEvents.lean ====
section
/-! DEFINITION. The meanings of the sensing events: HOLD, the completion of a conversion and the
timers (R112, R120, R124, R148, R161). -/

namespace Sys2Proof.Machine

/-- The round hold-limit timer started if a round is RUNNING (R120, R160). -/
def startRoundHoldTimer (s : State) : State :=
  match s.scan.round with
  | .running _ => { s with scan := { s.scan with holdTimer := .running s.settings.holdLimit } }
  | .idle => s
  | .closing _ => s
  | .holdWait => s

/-- HOLD asserting at the blocks (R120). -/
def holdBegins (s : State) : State :=
  startRoundHoldTimer
    (startSlotTimer { s with converter := s.converter.map fun cv => { cv with held := true } })

/-- HOLD_ASSERT; HOLD that is asserted already does not assert (R120). -/
def execHoldAssert (s : State) : Host.Outcome State Fault Refusal :=
  if s.hold then .next s
  else if blocksRun s then .next (holdBegins { s with hold := true })
  else .next { s with hold := true }

/-- HOLD releasing at the blocks (R120, R161). -/
def holdEnds (s : State) : State :=
  grant
    (endHoldWait
      { s with slotTimer := .stopped, scan := { s.scan with holdTimer := .stopped } })

/-- HOLD_RELEASE; HOLD that is released already does not release (R120). -/
def execHoldRelease (s : State) : Host.Outcome State Fault Refusal :=
  if s.hold then
    if blocksRun s then .next (holdEnds { s with hold := false })
    else .next { s with hold := false }
  else .next s

/-- CONVERSION_COMPLETE; with the converter IDLE nothing completes (R112). -/
def execConversionComplete (count : BitVec 12) (s : State) : Host.Outcome State Fault Refusal :=
  match s.converter with
  | some _ => .next (blockEvent (completeConversion count.toNat) s)
  | none => .next s

/-- ROUND_TIMER_EXPIRY; a timer that does not run does not expire (R148). -/
def execRoundTimerExpiry (s : State) : Host.Outcome State Fault Refusal :=
  match s.scan.roundTimer, blocksRun s with
  | .running _, true =>
    .next (grant (startIfDue { s with scan := { s.scan with roundTimer := .expired } }))
  | _, _ => .next s

/-- WATCH_TIMER_EXPIRY; a timer that does not run does not expire (R148). -/
def execWatchTimerExpiry (s : State) : Host.Outcome State Fault Refusal :=
  match s.scan.watchTimer, blocksRun s with
  | .running _, true =>
    .next (grant (startIfDue { s with scan := { s.scan with watchTimer := .expired } }))
  | _, _ => .next s

/-- ROUND_HOLD_LIMIT_EXPIRY: the RUNNING round is abandoned (R161); a timer that does not run does not
expire. -/
def execRoundHoldLimitExpiry (s : State) : Host.Outcome State Fault Refusal :=
  match s.scan.holdTimer, s.scan.round with
  | .running _, .running _ => .next (blockEvent holdTimeout s)
  | .running _, _ => .next s
  | .stopped, _ => .next s

/-- The measurement held off (R124). -/
def holdOff (s : State) : State :=
  match s.slot with
  | .queued target level => { s with slot := .heldOff target level, slotTimer := .stopped }
  | .converting target level => { s with slot := .heldOff target level, slotTimer := .stopped }
  | .none => s
  | .done _ _ _ _ => s
  | .heldOff _ _ => s
  | .aborted => s

/-- MEASURE_HOLD_LIMIT_EXPIRY; a timer that does not run does not expire (R124). -/
def execMeasureHoldLimitExpiry (s : State) : Host.Outcome State Fault Refusal :=
  match s.slotTimer, blocksRun s with
  | .running _, true => .next (holdOff s)
  | _, _ => .next s

end Sys2Proof.Machine
end

