-- ==== Sys2Proof/Machine/ZoneRequests.lean ====
section
/-! DEFINITION. The meanings of the requests to the Zone Table: DEFINE ZONE, DELETE ZONE and GET ZONE
(R43 to R52). -/

namespace Sys2Proof.Machine

/-- The zone an index byte names: none above 15 (R43). -/
def zoneOf (index : Byte) : Option (Fin 16) :=
  if h : index.toNat < 16 then some ⟨index.toNat, h⟩ else none

/-- The kind a code names (R187). -/
def kindOf (code : Byte) : Option ZoneKind :=
  match code.toNat with
  | 1 => some .button
  | 2 => some .slider
  | 3 => some .wheel
  | _ => none

/-- The member counts a kind allows (R44). -/
def memberCountAllowed (kind : ZoneKind) (n : Nat) : Bool :=
  match kind with
  | .button => 1 ≤ n && n ≤ 4
  | .slider => 2 ≤ n && n ≤ 8
  | .wheel => 3 ≤ n && n ≤ 8

/-- The channels that member bytes name: none if one is above 31 (R48). -/
def membersOf : List Byte → Option (List (Fin 32))
  | [] => some []
  | b :: rest =>
    match channelOf b, membersOf rest with
    | some m, some ms => some (m :: ms)
    | some _, none => none
    | none, _ => none

/-- The operands of a DEFINE ZONE that pass row 1 of R48. -/
structure ZoneOperands where
  index : Fin 16
  kind : ZoneKind
  moveThreshold : Nat
  members : List (Fin 32)
deriving DecidableEq, Repr

/-- Row 1 of R48: none where it gives RANGE. -/
def zoneOperands (index kind threshold : Byte) (members : List Byte) : Option ZoneOperands :=
  match zoneOf index, kindOf kind, membersOf members with
  | some i, some k, some ms =>
    if memberCountAllowed k ms.length && decide ms.Nodup then
      some { index := i, kind := k, moveThreshold := threshold.toNat, members := ms }
    else none
  | _, _, _ => none

/-- Rows 2 to 4 of R48: the refusal of the first that holds. -/
def defineRefusal (o : ZoneOperands) (s : State) : Option Status :=
  if (Table.read s.zones o.index).isSome then some .inUse
  else if o.members.any fun m => (Table.read s.channels m).config.role != .sense then some .role
  else if o.members.any fun m => isMember m s then some .inUse
  else none

/-- The record of a new zone (R49). -/
def newZone (o : ZoneOperands) : Zone where
  kind := o.kind
  moveThreshold := o.moveThreshold
  members := o.members
  current := none
  pending := false
  dropped := false

/-- The taking of DEFINE ZONE (R48, R49). -/
def takeDefineZone (index kind threshold : Byte) (members : List Byte) (s : State) : State :=
  match zoneOperands index kind threshold members with
  | none => refuse .range s
  | some o =>
    match defineRefusal o s with
    | some status => refuse status s
    | none => answerOk [] { s with zones := Table.write s.zones o.index (some (newZone o)) }

/-- DEFINE_ZONE (R48). -/
def execDefineZone (index kind threshold : Byte) (members : List Byte) (s : State) :
    Host.Outcome State Fault Refusal :=
  .next
    (deliver (.defineZone index kind threshold members)
      (takeDefineZone index kind threshold members) s)

/-- The Contact Table after the deletion of a zone: its current contact is lifted with cause
ZONE_DELETED (R50). -/
def contactsAfterDelete (z : Zone) (cs : List Contact) : List Contact :=
  match z.current with
  | some id => updateContact id (liftContact .zoneDeleted) cs
  | none => cs

/-- The taking of DELETE ZONE (R50). -/
def takeDeleteZone (index : Byte) (s : State) : State :=
  match zoneOf index with
  | none => refuse .range s
  | some i =>
    match Table.read s.zones i with
    | none => refuse .state s
    | some z =>
      answerOk []
        (judgeAttn
          { s with
            contacts := contactsAfterDelete z s.contacts
            zones := Table.write s.zones i none })

/-- DELETE_ZONE (R50). -/
def execDeleteZone (index : Byte) (s : State) : Host.Outcome State Fault Refusal :=
  .next (deliver (.deleteZone index) (takeDeleteZone index) s)

/-- The taking of GET ZONE (R52). -/
def takeGetZone (index : Byte) (s : State) : State :=
  match zoneOf index with
  | none => refuse .range s
  | some i => answerOk (zonePayload i (Table.read s.zones i)) s

/-- GET_ZONE (R52). -/
def execGetZone (index : Byte) (s : State) : Host.Outcome State Fault Refusal :=
  .next (deliver (.getZone index) (takeGetZone index) s)

end Sys2Proof.Machine
end

