-- ==== Sys2Proof/Machine/Dispatch.lean ====
section
/-! DEFINITION. The meaning of every command. -/

namespace Sys2Proof.Machine

/-- The effect of a command on everything but the queue. -/
def exec (i : Instr) (s : State) : Host.Outcome State Fault Refusal :=
  match i with
  | .powerOn => Sys2Proof.Machine.execPowerOn s
  | .startUpComplete adselHigh => Sys2Proof.Machine.execStartUpComplete adselHigh s
  | .rstnLow => Sys2Proof.Machine.execRstnLow s
  | .rstnRise adselHigh => Sys2Proof.Machine.execRstnRise adselHigh s
  | .holdAssert => Sys2Proof.Machine.execHoldAssert s
  | .holdRelease => Sys2Proof.Machine.execHoldRelease s
  | .requestFrame address write => Sys2Proof.Machine.execRequestFrame address write s
  | .addressProbe address => Sys2Proof.Machine.execAddressProbe address s
  | .replyRead address acks => Sys2Proof.Machine.execReplyRead address acks s
  | .busTimeout cut => Sys2Proof.Machine.execBusTimeout cut s
  | .identify => Sys2Proof.Machine.execIdentify s
  | .getStatus => Sys2Proof.Machine.execGetStatus s
  | .clearStatus mask => Sys2Proof.Machine.execClearStatus mask s
  | .setModePaused => Sys2Proof.Machine.execSetModePaused s
  | .setModeActive => Sys2Proof.Machine.execSetModeActive s
  | .setModeWatch => Sys2Proof.Machine.execSetModeWatch s
  | .resetFull => Sys2Proof.Machine.execResetFull s
  | .resetScan => Sys2Proof.Machine.execResetScan s
  | .resetComplete adselHigh => Sys2Proof.Machine.execResetComplete adselHigh s
  | .getSettings => Sys2Proof.Machine.execGetSettings s
  | .setSettings record => Sys2Proof.Machine.execSetSettings record s
  | .getChannel index => Sys2Proof.Machine.execGetChannel index s
  | .setChannel index fields => Sys2Proof.Machine.execSetChannel index fields s
  | .setRole index role => Sys2Proof.Machine.execSetRole index role s
  | .calibrate mask referenceFlag => Sys2Proof.Machine.execCalibrate mask referenceFlag s
  | .defineZone index kind moveThreshold members => Sys2Proof.Machine.execDefineZone index kind moveThreshold members s
  | .deleteZone index => Sys2Proof.Machine.execDeleteZone index s
  | .getZone index => Sys2Proof.Machine.execGetZone index s
  | .readContacts => Sys2Proof.Machine.execReadContacts s
  | .readChanges => Sys2Proof.Machine.execReadChanges s
  | .ackContacts pairs => Sys2Proof.Machine.execAckContacts pairs s
  | .measure target level => Sys2Proof.Machine.execMeasure target level s
  | .measureResult => Sys2Proof.Machine.execMeasureResult s
  | .conversionComplete count => Sys2Proof.Machine.execConversionComplete count s
  | .roundTimerExpiry => Sys2Proof.Machine.execRoundTimerExpiry s
  | .watchTimerExpiry => Sys2Proof.Machine.execWatchTimerExpiry s
  | .roundHoldLimitExpiry => Sys2Proof.Machine.execRoundHoldLimitExpiry s
  | .measureHoldLimitExpiry => Sys2Proof.Machine.execMeasureHoldLimitExpiry s
  | .supplyFall => Sys2Proof.Machine.execSupplyFall s

end Sys2Proof.Machine
end

