-- ==== Sys2Proof/Safety.lean ====
section
/-! DEFINITION. The laws the spec's prose gives the whole part, as properties of one state, and the
words the statements use. -/

namespace Sys2Proof.Machine

/-! ### ATTN (R106, R107) -/

/-- What asserts ATTN while no reset is in progress: a live record whose change set holds a change, or a
status event that is present and enabled (R106). -/
def AttnDue (s : State) : Prop :=
  (∃ c ∈ s.contacts, c.changes.appeared = true ∨ c.changes.moved = true ∨ c.changes.lifted = true)
    ∨ ∃ e : StatusEvent, s.events.has e = true ∧ s.settings.attentionMask.has e = true

/-- ATTN is asserted exactly as R106 says while the part runs, and released while a reset is in
progress (R107). An unpowered part is not spoken of. -/
def AttnLaw (s : State) : Prop :=
  match s.power with
  | .running => s.attn = true ↔ AttnDue s
  | .unpowered => True
  | .powerOnReset _ => s.attn = false
  | .pinReset => s.attn = false
  | .requestedReset _ => s.attn = false

/-! ### Settings (R178) -/

/-- Every setting lies in its range (R178). -/
def SettingsInRange (g : Settings) : Prop :=
  (5 ≤ g.roundInterval ∧ g.roundInterval ≤ 250) ∧ (1 ≤ g.watchInterval ∧ g.watchInterval ≤ 40)
    ∧ (1 ≤ g.holdLimit ∧ g.holdLimit ≤ 255) ∧ g.referenceLevel ≤ 7
    ∧ (1 ≤ g.referenceLimit ∧ g.referenceLimit ≤ 1023) ∧ (1 ≤ g.noiseLimit ∧ g.noiseLimit ≤ 255)
    ∧ (g.calibrationSamples = 4 ∨ g.calibrationSamples = 8 ∨ g.calibrationSamples = 16)
    ∧ (1 ≤ g.driftInterval ∧ g.driftInterval ≤ 255) ∧ (1 ≤ g.driftStep ∧ g.driftStep ≤ 15)
    ∧ (1 ≤ g.invertedLimit ∧ g.invertedLimit ≤ 1023)
    ∧ (1 ≤ g.invertedRounds ∧ g.invertedRounds ≤ 255) ∧ g.maxOn ≤ 65535 ∧ g.autoRetire ≤ 255

/-! ### Channel records (R1 to R3, R7, R18, R35) -/

/-- The configuration lies in its ranges, the release threshold below the touch threshold (R2, R7). -/
def ConfigInRange (c : ChannelConfig) : Prop :=
  c.level ≤ 7 ∧ (1 ≤ c.touchThreshold ∧ c.touchThreshold ≤ 1023)
    ∧ c.releaseThreshold < c.touchThreshold ∧ c.referenceWeight ≤ 16
    ∧ (1 ≤ c.debounceIn ∧ c.debounceIn ≤ 15) ∧ (1 ≤ c.debounceOut ∧ c.debounceOut ≤ 15)

/-- The dynamic fields lie in their ranges (R3). -/
def DynamicsInRange (d : ChannelDynamics) : Prop :=
  d.baseline ≤ 4095 ∧ d.lastRaw ≤ 4095 ∧ d.lastCorrected ≤ 4095
    ∧ (-4095 ≤ d.lastDelta ∧ d.lastDelta ≤ 4095) ∧ d.debounce ≤ 15 ∧ d.onTime ≤ 65535
    ∧ d.driftCount ≤ 255 ∧ d.invertedCount ≤ 255 ∧ d.outOfRange ≤ 3
    ∧ d.accumulator ≤ 4095 * d.samplesTaken ∧ d.samplesTaken ≤ 16

/-- The counts that belong to a state are 0 in every other state (R18, R35), the out-of-range count
reaches 3 only in FAULT (R14), and the fault cause is there only in FAULT (R21). -/
def CountsBelong (d : ChannelDynamics) : Prop :=
  (d.state.isTouched = false → d.onTime = 0)
    ∧ (d.state ≠ .arming → d.state ≠ .releasing → d.debounce = 0)
    ∧ (d.state ≠ .quiet → d.driftCount = 0 ∧ d.invertedCount = 0)
    ∧ (d.state ≠ .calibrating → d.accumulator = 0 ∧ d.samplesTaken = 0)
    ∧ (d.state ≠ .fault → d.outOfRange ≤ 2 ∧ d.faultCause = .none)

/-- A channel that is not SENSE is OFF with every other dynamic field 0 or NONE, and a SENSE channel
is not OFF (R1). -/
def OffOutsideSense (c : Channel) : Prop :=
  (c.config.role ≠ .sense → c.dyn = .cleared .off) ∧ (c.config.role = .sense → c.dyn.state ≠ .off)

/-- The law of one channel record. -/
def ChannelLaw (c : Channel) : Prop :=
  ConfigInRange c.config ∧ DynamicsInRange c.dyn ∧ CountsBelong c.dyn ∧ OffOutsideSense c

/-- The settings and every channel record obey their laws. -/
def ChannelTableLaw (s : State) : Prop :=
  SettingsInRange s.settings ∧ ∀ i, ChannelLaw (Table.read s.channels i)

/-! ### Zones (R44, R45) -/

/-- The member list of a DEFINED zone: as many as its kind allows, none twice, all SENSE (R44, R45). -/
def MembersLaw (channels : Vector Channel 32) (z : Zone) : Prop :=
  memberCountAllowed z.kind z.members.length = true ∧ z.members.Nodup
    ∧ ∀ m ∈ z.members, (Table.read channels m).config.role = .sense

/-- Every DEFINED zone obeys `MembersLaw` and no channel is a member of two zones (R45). -/
def MembershipLaw (s : State) : Prop :=
  (∀ i z, Table.read s.zones i = some z → MembersLaw s.channels z)
    ∧ ∀ i j z w, Table.read s.zones i = some z → Table.read s.zones j = some w →
        i ≠ j → ∀ m ∈ z.members, m ∉ w.members

/-! ### Contacts (R63, R66, R67, R70, R71) -/

/-- A record in DOWN has APPEARED in its change set and a record in LIFTED has LIFTED (R70). -/
def StateShowsChange (c : Contact) : Prop :=
  match c.state with
  | .down => c.changes.appeared = true
  | .held => True
  | .lifted _ _ => c.changes.lifted = true

/-- The Contact Table: at most ten records, ids 1..255 that differ, the next-id counter 1..255, and
each state with its change (R66, R67, R70). -/
def ContactTableLaw (s : State) : Prop :=
  s.contacts.length ≤ 10 ∧ (s.contacts.map fun c => c.id).Nodup
    ∧ (∀ c ∈ s.contacts, 1 ≤ c.id ∧ c.id ≤ 255) ∧ (1 ≤ s.nextId ∧ s.nextId ≤ 255)
    ∧ ∀ c ∈ s.contacts, StateShowsChange c

/-- The record is the current contact of the zone it names. -/
def IsCurrent (s : State) (c : Contact) : Prop :=
  ∃ z, Table.read s.zones c.zone = some z ∧ z.current = some c.id

/-- A zone's current contact is a DOWN or HELD record that names the zone, every DOWN or HELD record
is the current contact of the zone it names, and a pending zone has no current contact (R71, R62). -/
def CurrentContactLaw (s : State) : Prop :=
  (∀ i z id, Table.read s.zones i = some z → z.current = some id →
      ∃ c ∈ s.contacts, c.id = id ∧ c.zone = i ∧ c.state.isLifted = false)
    ∧ (∀ c ∈ s.contacts, c.state.isLifted = false → IsCurrent s c)
    ∧ ∀ i z, Table.read s.zones i = some z → z.pending = true → z.current = none

/-! ### Converter and rounds (R109, R115, R118, R142, R154, R160) -/

/-- A conversion in flight while HOLD is asserted is held (R109, R120). -/
def HeldLaw (s : State) : Prop :=
  ∀ cv, s.converter = some cv → s.hold = true → cv.held = true

/-- While the converter is IDLE every pin is at its drive between conversions (R115). -/
def IdlePinsLaw (s : State) : Prop := s.converter = none → s.drive = idlePins s.channels

/-- No claim waits while the converter is IDLE and HOLD is released (R118). -/
def ArbiterLaw (s : State) : Prop :=
  s.converter = none → s.hold = false →
    s.scanClaim = none ∧ ∀ target level, s.slot ≠ .queued target level

/-- The round's own work: a RUNNING round has one claim waiting or one conversion in flight, a CLOSING
round has its conversion in flight, and otherwise there is neither (R119, R154, R161). -/
def RoundWorkLaw (s : State) : Prop :=
  match s.scan.round with
  | .running _ => roundInFlight s = !s.scanClaim.isSome
  | .closing _ => roundInFlight s = true ∧ s.scanClaim = none
  | .idle => roundInFlight s = false ∧ s.scanClaim = none
  | .holdWait => roundInFlight s = false ∧ s.scanClaim = none

/-- The mode's timers and the hold-limit timers run only where their rules let them: the other mode's
timer is STOPPED, both are in PAUSED, a hold wait lasts no longer than HOLD, the round hold-limit
timer runs only for a RUNNING round and the slot's only for an outstanding measurement, both only
under HOLD (R124, R148, R160, R161). -/
def TimerLaw (s : State) : Prop :=
  (s.scan.mode ≠ .active → s.scan.roundTimer = .stopped)
    ∧ (s.scan.mode ≠ .watch → s.scan.watchTimer = .stopped)
    ∧ (s.scan.round = .holdWait → s.hold = true)
    ∧ (s.scan.holdTimer ≠ .stopped → s.hold = true ∧ ∃ r, s.scan.round = .running r)
    ∧ (s.slotTimer ≠ .stopped → s.hold = true ∧ s.slot.isOutstanding = true)

/-- A RUNNING round is of the present mode's kind, so none runs in PAUSED (R151, R155). -/
def RoundKindLaw (s : State) : Prop :=
  ∀ r, s.scan.round = .running r →
    (r.kind = .active → s.scan.mode = .active) ∧ (r.kind = .watch → s.scan.mode = .watch)

/-- A CONVERTING slot's measurement is the conversion in flight (R121, R123). -/
def SlotLaw (s : State) : Prop :=
  ∀ target level, s.slot = .converting target level →
    ∃ cv, s.converter = some cv ∧ cv.claimant = .host ∧ cv.target = target ∧ cv.level = level

/-- The laws of the converter, the arbiter, the pins and the rounds, while the blocks run. -/
def ScanningLaw (s : State) : Prop :=
  blocksRun s = true →
    HeldLaw s ∧ IdlePinsLaw s ∧ ArbiterLaw s ∧ RoundWorkLaw s ∧ TimerLaw s ∧ RoundKindLaw s
      ∧ SlotLaw s

/-! ### Words of the statements -/

/-- The host can have a request taken: no reset in progress and no request executing (R165, R170). -/
def Ready (s : State) : Prop := s.power = .running ∧ s.port.executing = false

/-- The part takes request `c`: it runs, and either `c` is the request in hand or no request executes,
and then the command stands for the whole exchange (R170; log entry 4). -/
def Takes (c : Instr) (s : State) : Prop :=
  s.power = .running ∧ (s.port.executing = true → parseFrame s.port.frame = some c)

/-- The state after an answer: reply `r` in the buffer, the executing flag off, no frame in hand, and
the bus record as given (R170, R171; `bus`: log entry 8). -/
def afterAnswer (view : BusView) (r : Reply) (s : State) : State :=
  { s with
    bus := view
    port := { s.port with reply := r, executing := false, frame := [], frameCount := 0 } }

/-- The state after request `c` left reply `r` in the buffer. Where the command stood for the whole
exchange, the part acknowledged its write, every data byte of it (log entries 4 and 8). -/
def afterReply (c : Instr) (r : Reply) (s : State) : State :=
  afterAnswer (if s.port.executing then s.bus else .written (requestFrameOf c).length) r s

/-- A reply that carries a status and no payload (R171). -/
def bare (status : Status) : Reply := { status := status, payload := [] }

/-- The conversion in flight is `cv`, granted to the Scan Controller for its present round. -/
def RoundConverts (s : State) (cv : Conversion) : Prop :=
  s.converter = some cv ∧ cv.claimant = .scan ∧ cv.ofRound = true

/-- A channel qualifies for a turn: role SENSE, not in FAULT, and in a WATCH round its watch flag on
(R145). -/
def Qualifies (kind : RoundKind) (c : Channel) : Prop :=
  c.config.role = .sense ∧ c.dyn.state ≠ .fault ∧ (kind = .watch → c.config.watch = true)

/-- Channel `k` may still have a turn of the round: it is numbered above the last one handled, if one has
been handled, and it qualifies (R145). -/
def TurnOpen (r : Round) (channels : Vector Channel 32) (k : Fin 32) : Prop :=
  (∀ l, r.last = some l → l < k) ∧ Qualifies r.kind (Table.read channels k)

/-- Channel `j` has the next turn of a round: it is the lowest that may still have one (R145). -/
def NextTurn (r : Round) (channels : Vector Channel 32) (j : Fin 32) : Prop :=
  TurnOpen r channels j ∧ ∀ k, TurnOpen r channels k → j ≤ k

/-- No channel is left for a turn of the round (R147). -/
def NoTurnLeft (r : Round) (channels : Vector Channel 32) : Prop := ∀ k, ¬ TurnOpen r channels k

/-- A conversion of REF for a round, as it starts (R109, R110). -/
def referenceConversion (s : State) : Conversion :=
  { claimant := .scan, target := .ref, level := s.settings.referenceLevel,
    durationUs := 64 * 2 ^ s.settings.referenceLevel, held := false, roleLost := false,
    ofRound := true }

/-- A conversion of a SENSE channel for a round, as it starts (R109, R110). -/
def channelConversion (c : ChannelConfig) (j : Fin 32) : Conversion :=
  { claimant := .scan, target := .channel j, level := c.level, durationUs := 64 * 2 ^ c.level,
    held := false, roleLost := false, ofRound := true }

/-- A conversion for a round, as it starts; a channel that has left SENSE starts with role lost (R109,
R110). -/
def scanConversion (x : Target) (s : State) : Conversion :=
  match x with
  | .ref => referenceConversion s
  | .channel j =>
    let c := (Table.read s.channels j).config
    { channelConversion c j with roleLost := decide (c.role ≠ .sense) }

/-- A conversion of the host's measurement, as it starts (R109, R110). -/
def hostConversion (x : Target) (level : Nat) : Conversion :=
  { claimant := .host, target := x, level := level, durationUs := 64 * 2 ^ level, held := false,
    roleLost := false, ofRound := false }

/-- Every pin at its drive between conversions, by the roles as they stand (R115). -/
def RestingPins (s : State) (drive : Vector PinDrive 32) : Prop :=
  ∀ p, Table.read drive p =
    if (Table.read s.channels p).config.role = .parked then .highImpedance else .low

/-- Every pin at its drive for a conversion of a target, by the roles and the idle sense drive as they
stand when it starts (R114, R115). -/
def PinsFor (x : Target) (s : State) (drive : Vector PinDrive 32) : Prop :=
  match x with
  | .ref => RestingPins s drive
  | .channel j => ∀ p, Table.read drive p =
      if p = j then .sensed else
        match (Table.read s.channels p).config.role with
        | .guard => .targetWaveform
        | .ground => .low
        | .parked => .highImpedance
        | .sense => if s.settings.idleSenseDrive = .low then .low else .targetWaveform

/-- State `t` is state `u` after the arbiter: with the converter IDLE and HOLD released a waiting
measurement is granted, or else a waiting claim of the Scan Controller; otherwise every claim keeps
waiting and nothing changes (R118). -/
def GrantedFrom (u t : State) : Prop :=
  if u.converter = none ∧ u.hold = false then
    match u.slot, u.scanClaim with
    | .queued x level, _ => ∃ drive, PinsFor x u drive ∧
        t = { u with
          slot := .converting x level, converter := some (hostConversion x level), drive := drive }
    | _, some x => ∃ drive, PinsFor x u drive ∧
        t = { u with scanClaim := none, converter := some (scanConversion x u), drive := drive }
    | _, none => t = u
  else t = u

/-- State `t` is what the end of a conversion leaves where its outcome, handed on, gives `u`: the
converter IDLE, the pins at their drive between conversions, then the arbiter's next grant, and ATTN
judged (R106, R112, R115). -/
def ConversionEnds (u t : State) : Prop :=
  AttnLaw t ∧ ∃ drive, RestingPins u drive
    ∧ GrantedFrom { u with converter := none, drive := drive, attn := t.attn } t

/-- The fields of the Scan Controller at the start of a round of a kind (R143, R160). -/
def scanAtStart (kind : RoundKind) (s : State) (c : Scan) : Scan :=
  { c with
    round := .running { kind := kind, phase := .reference, last := none }
    roundTimer := if kind = .active then .running s.settings.roundInterval else .stopped
    watchTimer := if kind = .watch then .running (50 * s.settings.watchInterval) else .stopped
    holdTimer := if s.hold then .running s.settings.holdLimit else c.holdTimer }

/-- The fields of the Scan Controller at the end of a completed round (R147, R150). -/
def scanAtEnd (s : State) : Scan :=
  { s.scan with
    round := .idle, counter := (s.scan.counter + 1) % 65536, holdTimer := .stopped }

/-- The fields of the Scan Controller at the turn of a channel (R145). -/
def scanAtTurn (r : Round) (j : Fin 32) (s : State) : Scan :=
  { s.scan with round := .running { kind := r.kind, phase := .channels, last := some j } }

/-- The conversion in flight is the last of RUNNING round `r`, and its outcome with count `n` leaves `u`
for the round end: a kept reference count that lets the round proceed, a kept channel count, or a
channel count discarded without a repeat (R144 to R147). -/
def LastOutcome (n : Nat) (r : Round) (s u : State) : Prop :=
  s.scan.round = .running r ∧ NoTurnLeft r u.channels ∧ ∃ cv, RoundConverts s cv ∧
    match cv.target with
    | .ref =>
      cv.held = false ∧ (judgeReference s.settings n s.reference).verdict = .proceed
        ∧ u = applyReference n s
    | .channel i =>
      (cv.held = false ∧ cv.roleLost = false ∧ u = applySample i n s)
        ∨ ((cv.roleLost = true
            ∨ (cv.held = true ∧ ¬ Qualifies r.kind (Table.read s.channels i))) ∧ u = s)

/-- What a write to the part's address shows the host: its address and every data byte acknowledged,
and a read or a write addressed at once by a repeated START not acknowledged (R165 to R167; log entry
18). -/
def frameSeen (count : Nat) (ending : FrameEnd) : BusView :=
  { acknowledged := true
    dataAcknowledged := count
    sent := []
    addressedAtOnce := match ending with
      | .stop => none
      | .repeatedStart _ => some false }

end Sys2Proof.Machine
end

