-- ==== Sys2Proof/Certificates/Slice0/Obligations.lean ====
section
/-! DEFINITION. The statements for the provers.

A request command with a request in hand is its hand-off. With none in hand it stands for the whole
exchange, a write of its frame and then the hand-off: the model's choice, log entry 4. `Takes`
covers both. The field `bus` is the model's own record of what the last transaction showed the host:
log entries 8 and 18. -/

open Sys2Proof Sys2Proof.Machine

/-! ### The queue and the reset state -/

/-- A step runs the command at the front of the queue with the queue's rest; on an empty queue the
part idles (the model's choice, log entry 3). -/
def Obligations.StepRunsTheFrontCommand : Prop :=
  (∀ (c : Instr) (rest : List Instr) (s : State), s.pending = c :: rest →
      step s = exec c { s with pending := rest })
    ∧ ∀ s : State, s.pending = [] → step s = .next s

/-- What the reset state holds where the spec gives the value: the supply, the rounds, the events, the
fifteen settings, every record of the tables, the reference, the converter, the slot and the port (R24,
R46, R68, R127, R128, R141, R163, R173, R178, R181, R183). The state is the one right after a completed
power-on reset: the model's choice, log entry 1. -/
def Obligations.ResetHoldsTheStatedValues : Prop :=
  State.reset.pending = [] ∧ State.reset.power = .running
    ∧ State.reset.scan.mode = .paused ∧ State.reset.scan.round = .idle
    ∧ State.reset.scan.roundTimer = .stopped ∧ State.reset.scan.watchTimer = .stopped
    ∧ State.reset.scan.holdTimer = .stopped ∧ State.reset.scan.counter = 0
    ∧ State.reset.resetCause = .power
    ∧ (∀ e : StatusEvent, State.reset.events.has e = true ↔ e = .resetDone)
    ∧ State.reset.settings =
        { roundInterval := 20, watchInterval := 4, holdLimit := 50, idleSenseDrive := .low,
          referenceLevel := 3, referenceLimit := 200, noiseLimit := 8, calibrationSamples := 8,
          driftInterval := 16, driftStep := 1, invertedLimit := 40, invertedRounds := 5,
          maxOn := 1500, autoRetire := 0, attentionMask := 0x7FF#11 }
    ∧ (∀ e : StatusEvent, State.reset.settings.attentionMask.has e = true)
    ∧ (∀ i : Fin 32, (Table.read State.reset.channels i).config =
          { role := .parked, level := 3, touchThreshold := 60, releaseThreshold := 40,
            referenceWeight := 16, watch := false, debounceIn := 2, debounceOut := 2 }
        ∧ (Table.read State.reset.channels i).dyn =
            { state := .off, baseline := 0, source := .none, lastRaw := 0, lastCorrected := 0,
              lastDelta := 0, debounce := 0, onTime := 0, driftCount := 0, invertedCount := 0,
              outOfRange := 0, faultCause := .none, accumulator := 0, samplesTaken := 0,
              mark := .none }
        ∧ Table.read State.reset.drive i = .highImpedance)
    ∧ (∀ i : Fin 16, Table.read State.reset.zones i = none)
    ∧ State.reset.contacts = [] ∧ State.reset.nextId = 1
    ∧ State.reset.reference = { state := .unset, baseline := 0, offset := 0, noiseCount := 0 }
    ∧ State.reset.converter = none ∧ State.reset.scanClaim = none ∧ State.reset.slot = .none
    ∧ State.reset.slotTimer = .stopped
    ∧ State.reset.port =
        { frame := [], frameCount := 0, reply := bare .noRequest, executing := false,
          sdaLow := false, timeoutRunning := false }
    ∧ State.reset.attn = true

/-- The reset state obeys every law that the steps keep. The state is the model's choice, log entry
1. -/
def Obligations.ResetMeetsEveryLaw : Prop :=
  AttnLaw State.reset ∧ ChannelTableLaw State.reset ∧ MembershipLaw State.reset
    ∧ ContactTableLaw State.reset ∧ CurrentContactLaw State.reset ∧ ScanningLaw State.reset

/-! ### Frames -/

/-- The CRC of a frame starts at 00h; each byte is combined with it by exclusive-or and shifted left
eight times, 07h being combined in where the outgoing bit is 1. The worked frame 20h 01h 05h has 4Dh.
A reply's check byte is the CRC of its status, length and payload; a request frame passes the check
exactly when its check byte is the CRC of its code, length and operands, which is exactly when the CRC
over the whole frame is 00h (R169). -/
def Obligations.CrcOfAnIntactFrameIsZero : Prop :=
  let shift := fun x : Byte => if x.msb = true then (x <<< 1) ^^^ 0x07#8 else x <<< 1
  crc8 [] = 0x00#8
    ∧ (∀ (body : List Byte) (b : Byte), crc8 (body ++ [b]) =
        shift (shift (shift (shift (shift (shift (shift (shift (crc8 body ^^^ b)))))))))
    ∧ crc8 [0x20#8, 0x01#8, 0x05#8] = 0x4D#8
    ∧ (∀ reply : Reply, reply.bytes =
        (let front := reply.status.code :: BitVec.ofNat 8 reply.payload.length :: reply.payload
        front ++ [crc8 front]))
    ∧ (∀ (code len check : Byte) (operands : List Byte), len.toNat ≤ 64 →
        operands.length = len.toNat →
        (judgeFrame (code :: len :: (operands ++ [check])) = some .check ↔
          check ≠ crc8 (code :: len :: operands)))
    ∧ ∀ (body : List Byte) (check : Byte), crc8 (body ++ [check]) = 0x00#8 ↔ check = crc8 body

/-- Each request is carried by the code and the operand bytes of R185 to R189, a number of two bytes
least significant byte first (R184), in a frame of code, operand length, operands and CRC-8; a command
that is no request by none. The frame of a well-formed request passes the four checks of R168 and is
read as that request. -/
def Obligations.RequestFrameCarriesItsRequest : Prop :=
  let word := fun x : BitVec 16 => [x.setWidth 8, (x >>> 8).setWidth 8]
  (∀ c : Instr, requestBody c =
      match c with
      | .identify => some (0x01#8, [])
      | .getStatus => some (0x02#8, [])
      | .clearStatus mask => some (0x03#8, word mask)
      | .setModePaused => some (0x04#8, [0#8])
      | .setModeActive => some (0x04#8, [1#8])
      | .setModeWatch => some (0x04#8, [2#8])
      | .resetFull => some (0x05#8, [1#8])
      | .resetScan => some (0x05#8, [2#8])
      | .getSettings => some (0x10#8, [])
      | .setSettings r => some (0x11#8,
          [r.roundInterval, r.watchInterval, r.holdLimit, r.idleSenseDrive, r.referenceLevel]
            ++ word r.referenceLimit
            ++ [r.noiseLimit, r.calibrationSamples, r.driftInterval, r.driftStep]
            ++ word r.invertedLimit ++ [r.invertedRounds] ++ word r.maxOn ++ [r.autoRetire]
            ++ word r.attentionMask)
      | .getChannel index => some (0x20#8, [index])
      | .setChannel index f => some (0x21#8,
          [index, f.level] ++ word f.touchThreshold ++ word f.releaseThreshold
            ++ [f.referenceWeight, f.watchFlag, f.debounceIn, f.debounceOut])
      | .setRole index role => some (0x22#8, [index, role])
      | .calibrate mask flag => some (0x23#8,
          [mask.setWidth 8, (mask >>> 8).setWidth 8, (mask >>> 16).setWidth 8,
            (mask >>> 24).setWidth 8, flag])
      | .defineZone index kind threshold members =>
        some (0x30#8, [index, kind, threshold] ++ members)
      | .deleteZone index => some (0x31#8, [index])
      | .getZone index => some (0x32#8, [index])
      | .readContacts => some (0x40#8, [])
      | .readChanges => some (0x41#8, [])
      | .ackContacts pairs => some (0x42#8, pairs.flatMap fun pair => [pair.1, pair.2])
      | .measure target level => some (0x50#8, [target, level])
      | .measureResult => some (0x51#8, [])
      | _ => none)
    ∧ (∀ (c : Instr) (code : Byte) (operands : List Byte), requestBody c = some (code, operands) →
        requestFrameOf c =
          (let front := code :: BitVec.ofNat 8 operands.length :: operands
          front ++ [crc8 front]))
    ∧ ∀ c : Instr, WellFormed c = true → requestBody c ≠ none →
      judgeFrame (requestFrameOf c) = none
        ∧ parseFrame (storedBytes (requestFrameOf c)) = some c

/-- A request that is written as a frame to the part's address and then handed off leaves the state
that the request command alone leaves. What the command alone does is the model's choice, log entry
4. -/
def Obligations.FrameThenHandOffIsTheRequest : Prop :=
  ∀ (c : Instr) (s : State), WellFormed c = true → requestBody c ≠ none → Ready s →
    ∃ t, exec (.requestFrame (if s.adselHigh then 0x3B#7 else 0x3A#7)
          { bytes := requestFrameOf c, ending := .stop }) s = .next t
      ∧ t.port.executing = true ∧ exec c t = exec c s

/-- A write of at least three bytes to the part's address is judged in the order of R168, however it
ends, and every data byte of it is acknowledged (R166, R167). A read or a write that a repeated START
addresses at once finds the executing flag on and is not acknowledged, after a refused frame too (R165,
R167; for a write: log entry 18). The codes and the operand lengths each takes are those of R185; a mode
above 2 and a reset kind other than 1 and 2 get RANGE (R184). Where RANGE is given, and `bus`, are the
model's choices, log entries 5, 8, 18. -/
def Obligations.FramesAreJudgedInOrder : Prop :=
  ∀ (s : State) (address : BitVec 7) (code len check : Byte) (operands : List Byte)
      (ending : FrameEnd), Ready s →
    address = (if s.adselHigh then 0x3B#7 else 0x3A#7) →
    let bytes := code :: len :: (operands ++ [check])
    let seen := frameSeen bytes.length ending
    let write := exec (.requestFrame address { bytes := bytes, ending := ending }) s
    let refused := fun st => write = .next (afterAnswer seen (bare st) s)
    let count := operands.length
    let known := decide (code ∈
      [0x01#8, 0x02#8, 0x03#8, 0x04#8, 0x05#8, 0x10#8, 0x11#8, 0x20#8, 0x21#8, 0x22#8, 0x23#8,
        0x30#8, 0x31#8, 0x32#8, 0x40#8, 0x41#8, 0x42#8, 0x50#8, 0x51#8])
    let fits := decide
      ((count = 0 ∧ code ∈ [0x01#8, 0x02#8, 0x10#8, 0x40#8, 0x41#8, 0x51#8])
        ∨ (count = 1 ∧ code ∈ [0x04#8, 0x05#8, 0x20#8, 0x31#8, 0x32#8])
        ∨ (count = 2 ∧ code ∈ [0x03#8, 0x22#8, 0x50#8]) ∨ (count = 5 ∧ code = 0x23#8)
        ∨ (count = 10 ∧ code = 0x21#8) ∨ (count = 19 ∧ code = 0x11#8)
        ∨ (4 ≤ count ∧ count ≤ 11 ∧ code = 0x30#8)
        ∨ (2 ≤ count ∧ count ≤ 20 ∧ count % 2 = 0 ∧ code = 0x42#8))
    let named := decide
      ((code = 0x04#8 → operands ∈ [[0#8], [1#8], [2#8]])
        ∧ (code = 0x05#8 → operands ∈ [[1#8], [2#8]]))
    if 64 < len.toNat ∨ operands.length ≠ len.toNat then refused .framing
    else if check ≠ crc8 (code :: len :: operands) then refused .check
    else if known = false then refused .unknown
    else if fits = false then refused .length
    else if named = false then refused .range
    else write =
      .next { s with
        bus := seen
        port := { s.port with
          frame := bytes, frameCount := operands.length + 3, executing := true } }

/-- What the transactions show the host. While a reset is in progress, the supply is down or a request
executes, and at any address but the one ADSEL selected, the part does not take part (R165); a repeated
START after such a write addresses the part like any START. At its address an address probe changes
nothing, a write of one or two bytes gets FRAMING (R168), and a read returns the reply frame, its
status code, payload length, payload and CRC-8, with FFh past the check byte, for as many bytes as the
host clocks up to the first it does not acknowledge (R166, R171, R172, R185). `bus` is the model's own
record, log entries 8 and 18; that an unpowered part takes part in none is its choice, log entry 2. -/
def Obligations.TransactionsAtTheAddress : Prop :=
  let selected := fun s : State => if s.adselHigh then 0x3B#7 else 0x3A#7
  (∀ (s : State) (address : BitVec 7) (bytes : List Byte) (ending : FrameEnd) (acks : List Bool),
      (s.power ≠ .running ∨ s.port.executing = true ∨ address ≠ selected s) →
      let ignored : BusView :=
        { acknowledged := false, dataAcknowledged := 0, sent := [], addressedAtOnce := none }
      ∃ again : Option Bool,
        (ending = .stop → again = none)
          ∧ (∀ next, ending = .repeatedStart next → again = some
              (decide (s.power = .running ∧ s.port.executing = false ∧ next = selected s)))
          ∧ exec (.requestFrame address { bytes := bytes, ending := ending }) s =
              .next { s with bus := { ignored with addressedAtOnce := again } }
          ∧ exec (.addressProbe address) s = .next { s with bus := ignored }
          ∧ exec (.replyRead address acks) s = .next { s with bus := ignored })
    ∧ ∀ (s : State) (address : BitVec 7) (acks : List Bool), Ready s → address = selected s →
      exec (.addressProbe address) s =
          .next { s with bus :=
            { acknowledged := true, dataAcknowledged := 0, sent := [], addressedAtOnce := none } }
        ∧ (∀ (bytes : List Byte) (ending : FrameEnd), bytes ≠ [] → bytes.length < 3 →
            exec (.requestFrame address { bytes := bytes, ending := ending }) s =
              .next (afterAnswer (frameSeen bytes.length ending) (bare .framing) s))
        ∧ ∃ (sent : List Byte) (code : Byte),
            exec (.replyRead address acks) s =
                .next { s with bus :=
                  { acknowledged := true, dataAcknowledged := 0, sent := sent
                    addressedAtOnce := none } }
              ∧ sent.length =
                  (if false ∈ acks then (acks.takeWhile fun a => a).length + 1 else acks.length)
              ∧ code = (match s.port.reply.status with
                  | .ok => 0#8 | .check => 1#8 | .framing => 2#8 | .unknown => 3#8
                  | .length => 4#8 | .range => 5#8 | .state => 6#8 | .inUse => 7#8
                  | .role => 8#8 | .busy => 9#8 | .noRequest => 10#8)
              ∧ (let front :=
                  code :: BitVec.ofNat 8 s.port.reply.payload.length :: s.port.reply.payload
                ∀ k, k < sent.length →
                  sent.getD k 0#8 = (front ++ [crc8 front]).getD k 0xFF#8)

/-- A bus timeout inside a transaction discards the bytes received so far unjudged and releases SDA,
even when they are a whole correct frame: the reply buffer stays and the executing flag does not go
on (R175). Outside such a transaction it changes nothing (R174). `bus`, and a timeout outside a
transaction, are the model's choices, log entries 6 and 8. -/
def Obligations.BusTimeoutDiscardsTheTransaction : Prop :=
  (∀ (s : State) (cut : CutTransaction), Ready s →
      ∃ seen : BusView,
        (∀ bytes, cut = .write bytes → seen =
            { acknowledged := true, dataAcknowledged := bytes.length, sent := []
              addressedAtOnce := none })
        ∧ (∀ acks, cut = .read acks →
            exec (.replyRead (if s.adselHigh then 0x3B#7 else 0x3A#7) acks) s =
              .next { s with bus := seen })
        ∧ exec (.busTimeout cut) s =
          .next { s with
            bus := seen
            port := { frame := [], frameCount := 0, reply := s.port.reply, executing := false,
                      sdaLow := false, timeoutRunning := false } })
    ∧ ∀ (s : State) (cut : CutTransaction),
      (s.power ≠ .running ∨ s.port.executing = true) → exec (.busTimeout cut) s = .next s

/-- While a reset is in progress no request is taken, and while a request executes no other is (R165,
R170). A request command then changes nothing: the model's choice, log entry 4; that it does not while
the supply is down either is log entry 2. -/
def Obligations.NoRequestIsTakenInBetween : Prop :=
  ∀ (c : Instr) (s : State), requestBody c ≠ none →
    (s.power ≠ .running
      ∨ (s.port.executing = true ∧ parseFrame s.port.frame ≠ some c)) →
    exec c s = .next s

/-! ### Requests to the part -/

/-- IDENTIFY returns its five items and changes nothing else (R176). A command with no request in
hand stands for the whole exchange: the model's choice, log entry 4. -/
def Obligations.IdentifyReturnsTheFiveItems : Prop :=
  ∀ s : State, Takes .identify s → exec .identify s =
    .next (afterReply .identify
      { status := .ok, payload := [0x8A#8, 0x0C#8, 0x41#8, 32#8, 16#8, 10#8] } s)

/-- GET STATUS returns the snapshot in the layout and the codes of R186 and changes nothing else
(R104). A command with no request in hand stands for the whole exchange: the model's choice, log entry
4. -/
def Obligations.GetStatusReturnsTheSnapshot : Prop :=
  ∀ s : State, Takes .getStatus s → ∃ events mask : BitVec 16,
    let position := fun e : StatusEvent => match e with
      | .resetDone => 0 | .woken => 1 | .channelFault => 2 | .rebaselined => 3
      | .referenceRecaptured => 4 | .referenceFault => 5 | .zoneDropped => 6 | .liftExpired => 7
      | .holdTimeout => 8 | .roundOverrun => 9 | .measureDone => 10
    (∀ e, events.getLsbD (position e) = s.events.has e)
      ∧ (∀ k, 10 < k → events.getLsbD k = false)
      ∧ (∀ i : Fin 16, mask.getLsbD i.val = true ↔
        ∃ z, Table.read s.zones i = some z ∧ z.pending = true)
      ∧ exec .getStatus s =
        .next (afterReply .getStatus
          { status := .ok
            payload :=
              [(match s.scan.mode with | .paused => 0#8 | .active => 1#8 | .watch => 2#8),
                (match s.resetCause with
                  | .power => 1#8 | .pin => 2#8 | .full => 3#8 | .scan => 4#8),
                events.setWidth 8, (events >>> 8).setWidth 8,
                BitVec.ofNat 8 s.scan.counter, BitVec.ofNat 8 (s.scan.counter / 256),
                BitVec.ofNat 8 s.contacts.length,
                mask.setWidth 8, (mask >>> 8).setWidth 8,
                (match s.reference.state with | .unset => 0#8 | .set => 1#8),
                (match s.slot with
                  | .none => 0#8 | .queued _ _ => 1#8 | .converting _ _ => 2#8
                  | .done _ _ _ _ => 3#8 | .heldOff _ _ => 4#8 | .aborted => 5#8)] } s)

/-- CLEAR STATUS removes exactly the events that its mask names by their places in R186, returns the
set that remains as such a mask, and ATTN follows (R101, R106). A command with no request in hand
stands for the whole exchange: the model's choice, log entry 4. -/
def Obligations.ClearStatusRemovesTheNamedEvents : Prop :=
  ∀ (s : State) (mask : BitVec 16), Takes (.clearStatus mask) s →
    ∃ (left : EventSet) (sent : BitVec 16) (attn : Bool),
    let position := fun e : StatusEvent => match e with
      | .resetDone => 0 | .woken => 1 | .channelFault => 2 | .rebaselined => 3
      | .referenceRecaptured => 4 | .referenceFault => 5 | .zoneDropped => 6 | .liftExpired => 7
      | .holdTimeout => 8 | .roundOverrun => 9 | .measureDone => 10
    (∀ e, left.has e = (s.events.has e && !mask.getLsbD (position e)))
      ∧ (∀ e, sent.getLsbD (position e) = left.has e) ∧ (∀ k, 10 < k → sent.getLsbD k = false)
      ∧ (attn = true ↔ AttnDue { s with events := left })
      ∧ exec (.clearStatus mask) s =
        .next (afterReply (.clearStatus mask)
          { status := .ok, payload := [sent.setWidth 8, (sent >>> 8).setWidth 8] }
          { s with events := left, attn := attn })

/-- GET SETTINGS returns the settings record in the layout of R186 (R177); SET SETTINGS with every
setting in its range writes all fifteen together, each from its own operand, mask places that name no
event being dropped (R184), ATTN being judged at once against the new mask (R105, R106), and with any
other it gets RANGE and changes nothing (R178). A command with no request in hand
stands for the whole exchange: the model's choice, log entry 4. -/
def Obligations.SettingsAreReadAndWrittenWhole : Prop :=
  let position := fun e : StatusEvent => match e with
    | .resetDone => 0 | .woken => 1 | .channelFault => 2 | .rebaselined => 3
    | .referenceRecaptured => 4 | .referenceFault => 5 | .zoneDropped => 6 | .liftExpired => 7
    | .holdTimeout => 8 | .roundOverrun => 9 | .measureDone => 10
  (∀ s : State, Takes .getSettings s → ∃ mask : BitVec 16,
      (∀ e, mask.getLsbD (position e) = s.settings.attentionMask.has e)
        ∧ (∀ k, 10 < k → mask.getLsbD k = false)
        ∧ exec .getSettings s =
          .next (afterReply .getSettings
            { status := .ok
              payload :=
                [BitVec.ofNat 8 s.settings.roundInterval, BitVec.ofNat 8 s.settings.watchInterval,
                  BitVec.ofNat 8 s.settings.holdLimit,
                  (match s.settings.idleSenseDrive with | .low => 0#8 | .guard => 1#8),
                  BitVec.ofNat 8 s.settings.referenceLevel,
                  BitVec.ofNat 8 s.settings.referenceLimit,
                  BitVec.ofNat 8 (s.settings.referenceLimit / 256),
                  BitVec.ofNat 8 s.settings.noiseLimit,
                  BitVec.ofNat 8 s.settings.calibrationSamples,
                  BitVec.ofNat 8 s.settings.driftInterval, BitVec.ofNat 8 s.settings.driftStep,
                  BitVec.ofNat 8 s.settings.invertedLimit,
                  BitVec.ofNat 8 (s.settings.invertedLimit / 256),
                  BitVec.ofNat 8 s.settings.invertedRounds,
                  BitVec.ofNat 8 s.settings.maxOn, BitVec.ofNat 8 (s.settings.maxOn / 256),
                  BitVec.ofNat 8 s.settings.autoRetire,
                  mask.setWidth 8, (mask >>> 8).setWidth 8] } s))
    ∧ ∀ (s : State) (r : SettingsOperands), Takes (.setSettings r) s →
      ∃ (mask : EventSet) (attn : Bool),
        let g : Settings :=
          { roundInterval := r.roundInterval.toNat, watchInterval := r.watchInterval.toNat,
            holdLimit := r.holdLimit.toNat,
            idleSenseDrive := if r.idleSenseDrive = 0#8 then .low else .guard,
            referenceLevel := r.referenceLevel.toNat, referenceLimit := r.referenceLimit.toNat,
            noiseLimit := r.noiseLimit.toNat, calibrationSamples := r.calibrationSamples.toNat,
            driftInterval := r.driftInterval.toNat, driftStep := r.driftStep.toNat,
            invertedLimit := r.invertedLimit.toNat, invertedRounds := r.invertedRounds.toNat,
            maxOn := r.maxOn.toNat, autoRetire := r.autoRetire.toNat, attentionMask := mask }
        (∀ e, mask.has e = r.attentionMask.getLsbD (position e))
          ∧ (attn = true ↔ AttnDue { s with settings := g })
          ∧ (SettingsInRange g → r.idleSenseDrive.toNat ≤ 1 →
            exec (.setSettings r) s =
              .next (afterReply (.setSettings r) (bare .ok)
                { s with settings := g, attn := attn }))
          ∧ (¬ (SettingsInRange g ∧ r.idleSenseDrive.toNat ≤ 1) →
            exec (.setSettings r) s = .next (afterReply (.setSettings r) (bare .range) s))

/-- SET MODE PAUSED naming the present mode changes nothing (R153). From another mode it stops both
timers and abandons the round: at once where no conversion of it is in flight, else as CLOSING;
contacts, zones and channels stay (R154, R155). A command with no request in hand stands for the
whole exchange: the model's choice, log entry 4. -/
def Obligations.SetModePausedAbandonsTheRound : Prop :=
  (∀ s : State, Takes .setModePaused s → s.scan.mode = .paused →
      exec .setModePaused s = .next (afterReply .setModePaused (bare .ok) s))
    ∧ ∀ s : State, Takes .setModePaused s → s.scan.mode ≠ .paused → ScanningLaw s →
      ((∀ cv, ¬ RoundConverts s cv) →
        exec .setModePaused s =
          .next (afterReply .setModePaused (bare .ok)
            { s with
              scanClaim := none
              scan := { s.scan with
                mode := .paused, roundTimer := .stopped, watchTimer := .stopped, round := .idle,
                holdTimer := .stopped } }))
        ∧ ∀ cv r, RoundConverts s cv →
          (s.scan.round = .running r ∨ s.scan.round = .closing r) →
          exec .setModePaused s =
            .next (afterReply .setModePaused (bare .ok)
              { s with scan := { s.scan with
                  mode := .paused, roundTimer := .stopped, watchTimer := .stopped,
                  round := .closing r, holdTimer := .stopped } })

/-- SET MODE ACTIVE naming the present mode changes nothing (R153). From another mode, where no
conversion of a round is in flight, it starts an ACTIVE round at once: its REF claim is granted if
the converter is IDLE and HOLD released, and waits otherwise. Where one is in flight the old round
is CLOSING (R154, R156). A command with no request in hand stands for the whole exchange: the
model's choice, log entry 4. -/
def Obligations.SetModeActiveStartsARound : Prop :=
  (∀ s : State, Takes .setModeActive s → s.scan.mode = .active →
      exec .setModeActive s = .next (afterReply .setModeActive (bare .ok) s))
    ∧ ∀ s : State, Takes .setModeActive s → s.scan.mode ≠ .active → ScanningLaw s →
      ((∀ cv, ¬ RoundConverts s cv) →
        ∃ t, exec .setModeActive s = .next t
          ∧ t.scan =
              { mode := .active
                round := .running { kind := .active, phase := .reference, last := none }
                roundTimer := .running s.settings.roundInterval
                watchTimer := .stopped
                holdTimer := (if s.hold then .running s.settings.holdLimit else .stopped)
                counter := s.scan.counter }
          ∧ (if s.converter = none ∧ s.hold = false then
              t.converter = some (referenceConversion s) ∧ t.scanClaim = none
            else t.converter = s.converter ∧ t.scanClaim = some .ref)
          ∧ t = afterReply .setModeActive (bare .ok)
              { s with scan := t.scan, converter := t.converter, scanClaim := t.scanClaim })
        ∧ ∀ cv r, RoundConverts s cv →
          (s.scan.round = .running r ∨ s.scan.round = .closing r) →
          exec .setModeActive s =
            .next (afterReply .setModeActive (bare .ok)
              { s with scan := { s.scan with
                  mode := .active, watchTimer := .stopped, round := .closing r,
                  holdTimer := .stopped } })

/-- SET MODE WATCH naming the present mode changes nothing (R153). From another mode it is refused
with STATE, and nothing changes, while a zone has a current contact or is pending (R157). Otherwise,
with no conversion of a round in flight, it ends the round, stops the round timer, starts the watch
timer and sets each unwatched SENSE channel in ARMING, TOUCHED or RELEASING to QUIET, with no mark;
with one in flight the round is CLOSING and the channels wait for its end (R154, R158). A command
with no request in hand stands for the whole exchange: the model's choice, log entry 4. -/
def Obligations.SetModeWatchIsRefusedOrEnters : Prop :=
  (∀ s : State, Takes .setModeWatch s → s.scan.mode = .watch →
      exec .setModeWatch s = .next (afterReply .setModeWatch (bare .ok) s))
    ∧ ∀ s : State, Takes .setModeWatch s → s.scan.mode ≠ .watch → ScanningLaw s →
      ((∃ i z, Table.read s.zones i = some z ∧ (z.current ≠ none ∨ z.pending = true)) →
          exec .setModeWatch s = .next (afterReply .setModeWatch (bare .state) s))
        ∧ ((∀ i z, Table.read s.zones i = some z → z.current = none ∧ z.pending = false) →
          ((∀ cv, ¬ RoundConverts s cv) →
            ∃ channels : Vector Channel 32,
              (∀ i, Table.read channels i =
                (let c := Table.read s.channels i
                if c.config.role = .sense ∧ c.config.watch = false ∧
                    (c.dyn.state = .arming ∨ c.dyn.state = .touched ∨ c.dyn.state = .releasing)
                then { c with dyn := { c.dyn with state := .quiet, debounce := 0, onTime := 0 } }
                else c))
                ∧ exec .setModeWatch s =
                  .next (afterReply .setModeWatch (bare .ok)
                    { s with
                      channels := channels
                      scanClaim := none
                      scan := { s.scan with
                        mode := .watch, round := .idle, roundTimer := .stopped,
                        watchTimer := .running (50 * s.settings.watchInterval),
                        holdTimer := .stopped } }))
            ∧ ∀ cv r, RoundConverts s cv →
              (s.scan.round = .running r ∨ s.scan.round = .closing r) →
              exec .setModeWatch s =
                .next (afterReply .setModeWatch (bare .ok)
                  { s with scan := { s.scan with
                      mode := .watch, round := .closing r, roundTimer := .stopped,
                      watchTimer := .running (50 * s.settings.watchInterval),
                      holdTimer := .stopped } }))

/-! ### Requests to the channels -/

/-- GET CHANNEL and GET ZONE return the whole record in the layout and the codes of R187, and RANGE for
an index that names none, with no side effect (R10, R52). A command with no request in hand stands for
the whole exchange: the model's choice, log entry 4. -/
def Obligations.ChannelAndZoneRecordsAreReadWhole : Prop :=
  (∀ (s : State) (i : Fin 32), Takes (.getChannel (BitVec.ofNat 8 i.val)) s →
      let c := (Table.read s.channels i).config
      let d := (Table.read s.channels i).dyn
      let delta := BitVec.ofInt 16 d.lastDelta
      exec (.getChannel (BitVec.ofNat 8 i.val)) s =
        .next (afterReply (.getChannel (BitVec.ofNat 8 i.val))
          { status := .ok
            payload :=
              [BitVec.ofNat 8 i.val, (match c.role with
                  | .parked => 0#8 | .sense => 1#8 | .guard => 2#8 | .ground => 3#8),
                BitVec.ofNat 8 c.level,
                BitVec.ofNat 8 c.touchThreshold, BitVec.ofNat 8 (c.touchThreshold / 256),
                BitVec.ofNat 8 c.releaseThreshold, BitVec.ofNat 8 (c.releaseThreshold / 256),
                BitVec.ofNat 8 c.referenceWeight, if c.watch then 1#8 else 0#8,
                BitVec.ofNat 8 c.debounceIn, BitVec.ofNat 8 c.debounceOut,
                (match d.state with
                  | .off => 0#8 | .calibrating => 1#8 | .quiet => 2#8 | .arming => 3#8
                  | .touched => 4#8 | .releasing => 5#8 | .fault => 6#8),
                BitVec.ofNat 8 d.baseline, BitVec.ofNat 8 (d.baseline / 256),
                (match d.source with
                  | .none => 0#8 | .calibrated => 1#8 | .drifted => 2#8 | .inverted => 3#8
                  | .stuck => 4#8),
                BitVec.ofNat 8 d.lastRaw, BitVec.ofNat 8 (d.lastRaw / 256),
                BitVec.ofNat 8 d.lastCorrected, BitVec.ofNat 8 (d.lastCorrected / 256),
                delta.setWidth 8, (delta >>> 8).setWidth 8, BitVec.ofNat 8 d.debounce,
                BitVec.ofNat 8 d.onTime, BitVec.ofNat 8 (d.onTime / 256),
                BitVec.ofNat 8 d.driftCount, BitVec.ofNat 8 d.invertedCount,
                BitVec.ofNat 8 d.outOfRange,
                (match d.faultCause with | .none => 0#8 | .low => 1#8 | .high => 2#8),
                BitVec.ofNat 8 d.accumulator, BitVec.ofNat 8 (d.accumulator / 256),
                BitVec.ofNat 8 d.samplesTaken,
                (match d.mark with
                  | .none => 0#8 | .stuck => 1#8 | .fault => 2#8 | .recalibrated => 3#8)] } s))
    ∧ (∀ (s : State) (index : Byte), Takes (.getChannel index) s → 31 < index.toNat →
        exec (.getChannel index) s = .next (afterReply (.getChannel index) (bare .range) s))
    ∧ (∀ (s : State) (i : Fin 16), Takes (.getZone (BitVec.ofNat 8 i.val)) s →
        exec (.getZone (BitVec.ofNat 8 i.val)) s =
          .next (afterReply (.getZone (BitVec.ofNat 8 i.val))
            { status := .ok
              payload := match Table.read s.zones i with
                | none => [BitVec.ofNat 8 i.val, 0#8, 0#8, 0#8, 0#8, 0#8, 0#8]
                | some z =>
                  [BitVec.ofNat 8 i.val, 1#8,
                    (match z.kind with | .button => 1#8 | .slider => 2#8 | .wheel => 3#8),
                    BitVec.ofNat 8 z.moveThreshold,
                    BitVec.ofNat 8 (z.current.getD 0),
                    BitVec.ofNat 8 ((if z.pending then 1 else 0) + (if z.dropped then 2 else 0)),
                    BitVec.ofNat 8 z.members.length]
                    ++ z.members.map fun m => BitVec.ofNat 8 m.val } s))
    ∧ ∀ (s : State) (index : Byte), Takes (.getZone index) s → 15 < index.toNat →
        exec (.getZone index) s = .next (afterReply (.getZone index) (bare .range) s)

/-- SET CHANNEL with an operand out of range gets RANGE and changes nothing. In range it writes the
seven fields together, keeps the role, and recalibrates a SENSE channel whose level changes, marking
it RECALIBRATED under the precedence if it was touched (R7, R9). A command with no request in hand
stands for the whole exchange: the model's choice, log entry 4. -/
def Obligations.SetChannelWritesAndRecalibrates : Prop :=
  (∀ (s : State) (i : Fin 32) (f : ChannelOperands),
      Takes (.setChannel (BitVec.ofNat 8 i.val) f) s →
      f.level.toNat ≤ 7 → 1 ≤ f.touchThreshold.toNat → f.touchThreshold.toNat ≤ 1023 →
      f.releaseThreshold.toNat < f.touchThreshold.toNat → f.referenceWeight.toNat ≤ 16 →
      f.watchFlag.toNat ≤ 1 → 1 ≤ f.debounceIn.toNat → f.debounceIn.toNat ≤ 15 →
      1 ≤ f.debounceOut.toNat → f.debounceOut.toNat ≤ 15 →
      let c := (Table.read s.channels i).config
      let d := (Table.read s.channels i).dyn
      let mark := if (d.state = .touched ∨ d.state = .releasing) ∧ d.mark = .none then
        LeaveMark.recalibrated else d.mark
      let config : ChannelConfig :=
        { role := c.role, level := f.level.toNat, touchThreshold := f.touchThreshold.toNat,
          releaseThreshold := f.releaseThreshold.toNat,
          referenceWeight := f.referenceWeight.toNat, watch := decide (f.watchFlag.toNat = 1),
          debounceIn := f.debounceIn.toNat, debounceOut := f.debounceOut.toNat }
      let dyn : ChannelDynamics :=
        if c.role = .sense ∧ c.level ≠ f.level.toNat then
          { d with
            state := .calibrating, accumulator := 0, samplesTaken := 0, debounce := 0, onTime := 0,
            driftCount := 0, invertedCount := 0, outOfRange := 0, faultCause := .none,
            mark := mark }
        else d
      exec (.setChannel (BitVec.ofNat 8 i.val) f) s =
        .next (afterReply (.setChannel (BitVec.ofNat 8 i.val) f) (bare .ok)
          { s with channels := Table.write s.channels i { config := config, dyn := dyn } }))
    ∧ ∀ (s : State) (index : Byte) (f : ChannelOperands), Takes (.setChannel index f) s →
      (31 < index.toNat ∨ 7 < f.level.toNat ∨ f.touchThreshold.toNat = 0
        ∨ 1023 < f.touchThreshold.toNat ∨ 1022 < f.releaseThreshold.toNat
        ∨ f.touchThreshold.toNat ≤ f.releaseThreshold.toNat ∨ 16 < f.referenceWeight.toNat
        ∨ 1 < f.watchFlag.toNat ∨ f.debounceIn.toNat = 0 ∨ 15 < f.debounceIn.toNat
        ∨ f.debounceOut.toNat = 0 ∨ 15 < f.debounceOut.toNat) →
      exec (.setChannel index f) s = .next (afterReply (.setChannel index f) (bare .range) s)

/-- SET ROLE: RANGE for an index above 31 or a code above 3; IN_USE for a zone member leaving SENSE;
otherwise the effect of R5's table on the record, role lost on a scan conversion of the channel in
flight (R6), and the pin's new drive at once while the converter is IDLE (R115). A command with no
request in hand stands for the whole exchange: the model's choice, log entry 4. -/
def Obligations.SetRoleFollowsTheTable : Prop :=
  (∀ (s : State) (index role : Byte),
      Takes (.setRole index role) s → (31 < index.toNat ∨ 3 < role.toNat) →
      exec (.setRole index role) s = .next (afterReply (.setRole index role) (bare .range) s))
    ∧ ∀ (s : State) (i : Fin 32) (role : Role),
      let c := Instr.setRole (BitVec.ofNat 8 i.val) (match role with
        | .parked => 0#8 | .sense => 1#8 | .guard => 2#8 | .ground => 3#8)
      Takes c s →
      let cleared : ChannelState → ChannelDynamics := fun state =>
        { state := state, baseline := 0, source := .none, lastRaw := 0, lastCorrected := 0,
          lastDelta := 0, debounce := 0, onTime := 0, driftCount := 0, invertedCount := 0,
          outOfRange := 0, faultCause := .none, accumulator := 0, samplesTaken := 0,
          mark := .none }
      let member := ∃ k z, Table.read s.zones k = some z ∧ i ∈ z.members
      (member → role ≠ .sense →
        exec c s = .next (afterReply c (bare .inUse) s))
        ∧ (¬ (member ∧ role ≠ .sense) →
          ∃ t, exec c s = .next t
            ∧ t = afterReply c (bare .ok)
                { s with channels := t.channels, converter := t.converter, drive := t.drive }
            ∧ (∀ j, j ≠ i → Table.read t.channels j = Table.read s.channels j)
            ∧ (let old := Table.read s.channels i
              let new := Table.read t.channels i
              if old.config.role = .sense ∧ role = .sense then new = old
              else new.config = { old.config with role := role }
                ∧ new.dyn = cleared (if role = .sense then .calibrating else .off))
            ∧ (match s.converter with
              | none =>
                t.converter = none
                  ∧ Table.read t.drive i = (if role = .parked then .highImpedance else .low)
                  ∧ ∀ j, j ≠ i → Table.read t.drive j = Table.read s.drive j
              | some cv =>
                t.drive = s.drive
                  ∧ t.converter = some
                    { cv with
                      roleLost := cv.roleLost ||
                        decide (cv.claimant = .scan ∧ cv.target = .channel i ∧ role ≠ .sense) }))

/-- CALIBRATE with a reference flag other than off or on gets RANGE; otherwise each named SENSE
channel is put into calibration, no other record changes, the reply counts them, and the flag on
makes the reference UNSET (R32, R34). A command with no request in hand stands for the whole
exchange: the model's choice, log entry 4. -/
def Obligations.CalibrateRestartsTheNamedChannels : Prop :=
  (∀ (s : State) (mask : BitVec 32) (flag : Byte), Takes (.calibrate mask flag) s → 1 < flag.toNat →
      exec (.calibrate mask flag) s = .next (afterReply (.calibrate mask flag) (bare .range) s))
    ∧ ∀ (s : State) (mask : BitVec 32) (flag : Byte),
        Takes (.calibrate mask flag) s → flag.toNat ≤ 1 →
      ∃ channels : Vector Channel 32,
        (∀ i, Table.read channels i =
          (let c := Table.read s.channels i
          let d := c.dyn
          if mask.getLsbD i.val = true ∧ c.config.role = .sense then
            { c with dyn := { d with
                state := .calibrating, accumulator := 0, samplesTaken := 0, debounce := 0,
                onTime := 0, driftCount := 0, invertedCount := 0, outOfRange := 0,
                faultCause := .none,
                mark := if (d.state = .touched ∨ d.state = .releasing) ∧ d.mark = .none then
                  .recalibrated else d.mark } }
          else c))
          ∧ exec (.calibrate mask flag) s =
            .next (afterReply (.calibrate mask flag)
              { status := .ok
                payload := [BitVec.ofNat 8 ((List.finRange 32).filter fun i =>
                  mask.getLsbD i.val &&
                    decide ((Table.read s.channels i).config.role = .sense)).length] }
              { s with
                channels := channels
                reference := if flag.toNat = 1 then
                  { s.reference with state := .unset, noiseCount := 0 } else s.reference })

/-! ### Requests to the zones -/

/-- DEFINE ZONE: the first row of R48 that holds gives the refusal and nothing changes; a request
that passes makes the zone DEFINED with no current contact and both flags off, and touches no
channel (R48, R49). A command with no request in hand stands for the whole exchange: the model's
choice, log entry 4. -/
def Obligations.DefineZoneChecksInOrder : Prop :=
  (∀ (s : State) (index kind threshold : Byte) (members : List Byte),
      Takes (.defineZone index kind threshold members) s →
      1 ≤ members.length → members.length ≤ 8 →
      (15 < index.toNat ∨ kind.toNat = 0 ∨ 3 < kind.toNat
        ∨ (kind.toNat = 1 ∧ 4 < members.length) ∨ (kind.toNat = 2 ∧ members.length < 2)
        ∨ (kind.toNat = 3 ∧ members.length < 3) ∨ (∃ m ∈ members, 31 < m.toNat)
        ∨ ¬ members.Nodup) →
      exec (.defineZone index kind threshold members) s =
        .next (afterReply (.defineZone index kind threshold members) (bare .range) s))
    ∧ ∀ (s : State) (i : Fin 16) (kind : ZoneKind) (threshold : Byte) (members : List (Fin 32)),
      let c := Instr.defineZone (BitVec.ofNat 8 i.val)
        (match kind with | .button => 1#8 | .slider => 2#8 | .wheel => 3#8) threshold
        (members.map fun m => BitVec.ofNat 8 m.val)
      let most := match kind with | .button => 4 | .slider => 8 | .wheel => 8
      let least := match kind with | .button => 1 | .slider => 2 | .wheel => 3
      Takes c s → least ≤ members.length → members.length ≤ most → members.Nodup →
      if Table.read s.zones i ≠ none then exec c s = .next (afterReply c (bare .inUse) s)
      else if ∃ m ∈ members, (Table.read s.channels m).config.role ≠ .sense then
        exec c s = .next (afterReply c (bare .role) s)
      else if ∃ m ∈ members, ∃ k z, Table.read s.zones k = some z ∧ m ∈ z.members then
        exec c s = .next (afterReply c (bare .inUse) s)
      else
        exec c s = .next (afterReply c (bare .ok)
          { s with
            zones := Table.write s.zones i
              (some
                { kind := kind, moveThreshold := threshold.toNat, members := members,
                  current := none, pending := false, dropped := false }) })

/-- DELETE ZONE: RANGE above 15, STATE for a FREE zone; otherwise the zone becomes FREE, its current
contact is lifted at once with cause ZONE_DELETED and keeps its place, and ATTN follows (R50). A
command with no request in hand stands for the whole exchange: the model's choice, log entry 4. -/
def Obligations.DeleteZoneLiftsItsContact : Prop :=
  (∀ (s : State) (index : Byte), Takes (.deleteZone index) s → 15 < index.toNat →
      exec (.deleteZone index) s = .next (afterReply (.deleteZone index) (bare .range) s))
    ∧ ∀ (s : State) (i : Fin 16),
      let c := Instr.deleteZone (BitVec.ofNat 8 i.val)
      Takes c s →
      match Table.read s.zones i with
      | none =>
        exec c s = .next (afterReply c (bare .state) s)
      | some z =>
        let lifted := fun x : Contact =>
          if z.current = some x.id then
            { x with
              state := .lifted .zoneDeleted 0
              changes := { x.changes with lifted := true }
              revision := (x.revision + 1) % 256 }
          else x
        let s1 :=
          { s with zones := Table.write s.zones i none, contacts := s.contacts.map lifted }
        ∃ attn : Bool, (attn = true ↔ AttnDue s1)
          ∧ exec c s = .next (afterReply c (bare .ok) { s1 with attn := attn })

/-! ### Requests to the contacts -/

/-- READ CONTACTS returns every live record in list order and READ CHANGES those whose change set is
not empty, with no side effect (R90 to R92); an entry is the bytes of R188, in one of four forms
of three lengths, and the payload of a table of at most ten is at most 131 bytes (R188). A command
with no request in hand stands for the whole exchange: the model's choice, log entry 4. -/
def Obligations.ContactsAreReadInListOrder : Prop :=
  (∀ s : State, Takes .readContacts s → exec .readContacts s =
      .next (afterReply .readContacts
        { status := .ok
          payload := BitVec.ofNat 8 s.contacts.length :: s.contacts.flatMap contactEntry } s))
    ∧ (∀ s : State, Takes .readChanges s →
        ∃ changed : List Contact, changed.Sublist s.contacts
          ∧ (∀ c, c ∈ changed ↔ c ∈ s.contacts ∧
              (c.changes.appeared = true ∨ c.changes.moved = true ∨ c.changes.lifted = true))
          ∧ exec .readChanges s =
            .next (afterReply .readChanges
              { status := .ok
                payload := BitVec.ofNat 8 changed.length :: changed.flatMap contactEntry } s))
    ∧ (∀ c : Contact, contactEntry c =
        [BitVec.ofNat 8 c.id, BitVec.ofNat 8 c.zone.val,
          BitVec.ofNat 8 ((match c.state with
              | .down => 1
              | .held => 2
              | .lifted _ _ => 3) + (if c.travel.isSome then 128 else 0)),
          BitVec.ofNat 8 ((if c.changes.appeared then 1 else 0) + (if c.changes.moved then 2 else 0)
            + (if c.changes.lifted then 4 else 0)),
          BitVec.ofNat 8 c.revision, BitVec.ofNat 8 c.strength, BitVec.ofNat 8 (c.strength / 256),
          BitVec.ofNat 8 c.age, BitVec.ofNat 8 (c.age / 256)]
        ++ (match c.travel with
          | none => []
          | some p => [BitVec.ofNat 8 p.position, BitVec.ofNat 8 (p.position / 256)])
        ++ (match c.state with
          | .down => []
          | .held => []
          | .lifted cause age =>
            [(match cause with
              | .released => 1#8
              | .stuck => 2#8
              | .fault => 3#8
              | .recalibrated => 4#8
              | .zoneDeleted => 5#8), BitVec.ofNat 8 age]))
    ∧ (∀ c : Contact, (contactEntry c).length =
        9 + (if c.travel.isSome then 2 else 0) + (if c.state.isLifted then 2 else 0))
    ∧ ∀ cs : List Contact, cs.length ≤ 10 → (contactsPayload cs).length ≤ 131

/-- ACK CONTACTS processes its pairs in list order, each judged against the table the pairs before
it left, and returns one outcome for each; ATTN follows (R93, R99). One pair against a table whose
ids differ: NO_CONTACT where no record carries the id and NEWER where the revision differs, the
table unchanged; DONE where both match, which retires a LIFTED record and empties the change set of
a DOWN or HELD one, leaving it HELD in its place (R94 to R96). A command with no request in hand
stands for the whole exchange: the model's choice, log entry 4. -/
def Obligations.AckContactsProcessesPairsInOrder : Prop :=
  (∀ (s : State) (pairs : List (Byte × Byte)),
      Takes (.ackContacts pairs) s → 1 ≤ pairs.length → pairs.length ≤ 10 →
      let after := fun (k : Nat) =>
        (pairs.take k).foldl (fun cs p => ackPair p.1.toNat p.2.toNat cs) s.contacts
      ∃ outcomes : List AckOutcome, outcomes.length = pairs.length
        ∧ (∀ k p, pairs[k]? = some p →
            outcomes[k]? = some (ackOutcome p.1.toNat p.2.toNat (after k)))
        ∧ ∃ attn : Bool, (attn = true ↔ AttnDue { s with contacts := after pairs.length })
          ∧ exec (.ackContacts pairs) s =
            .next (afterReply (.ackContacts pairs)
              { status := .ok
                payload := BitVec.ofNat 8 pairs.length :: outcomes.map fun o =>
                  match o with | .done => 1#8 | .newer => 2#8 | .noContact => 3#8 }
              { s with contacts := after pairs.length, attn := attn }))
    ∧ ∀ (cs : List Contact) (id revision : Nat), (cs.map fun c => c.id).Nodup →
      ((∀ c ∈ cs, c.id ≠ id) →
          ackOutcome id revision cs = .noContact ∧ ackPair id revision cs = cs)
        ∧ ∀ c ∈ cs, c.id = id →
          (c.revision ≠ revision →
              ackOutcome id revision cs = .newer ∧ ackPair id revision cs = cs)
            ∧ (c.revision = revision →
              ackOutcome id revision cs = .done
                ∧ (c.state.isLifted = true →
                    ackPair id revision cs = cs.filter fun x => decide (x ≠ c))
                ∧ (c.state.isLifted = false →
                    ackPair id revision cs = cs.map fun x =>
                      if x = c then
                        { c with
                          state := .held
                          changes := { appeared := false, moved := false, lifted := false } }
                      else x))

/-! ### Measurements -/

/-- MEASURE: RANGE for a target above 32 or a level above 7; BUSY while a measurement is
outstanding; otherwise the slot takes the target and level, and its conversion starts at once if the
converter is IDLE and HOLD released, the pins driven by R114 or R115; under HOLD its hold-limit
timer starts (R122 to R124). A command with no request in hand stands for the whole exchange: the
model's choice, log entry 4. -/
def Obligations.MeasureQueuesOrConverts : Prop :=
  (∀ (s : State) (target level : Byte),
      Takes (.measure target level) s → (32 < target.toNat ∨ 7 < level.toNat) →
      exec (.measure target level) s = .next (afterReply (.measure target level) (bare .range) s))
    ∧ (∀ (s : State) (target level : Byte),
        Takes (.measure target level) s → target.toNat ≤ 32 → level.toNat ≤ 7 →
        (∃ t l, s.slot = .queued t l ∨ s.slot = .converting t l) →
        exec (.measure target level) s = .next (afterReply (.measure target level) (bare .busy) s))
    ∧ ∀ (s : State) (target : Target) (level : Byte),
      let code : Byte := match target with | .ref => 32#8 | .channel j => BitVec.ofNat 8 j.val
      Takes (.measure code level) s → level.toNat ≤ 7 →
      (∀ t l, s.slot ≠ .queued t l ∧ s.slot ≠ .converting t l) →
      if s.converter = none ∧ s.hold = false then
        ∃ drive : Vector PinDrive 32,
          (∀ p, Table.read drive p =
            (match target with
            | .ref => if (Table.read s.channels p).config.role = .parked then .highImpedance
                else .low
            | .channel j => if p = j then .sensed else
                match (Table.read s.channels p).config.role with
                | .guard => .targetWaveform
                | .ground => .low
                | .parked => .highImpedance
                | .sense => if s.settings.idleSenseDrive = .low then .low else .targetWaveform))
            ∧ exec (.measure code level) s =
              .next (afterReply (.measure code level) (bare .ok)
                { s with
                  slot := .converting target level.toNat
                  drive := drive
                  converter := some
                    { claimant := .host, target := target, level := level.toNat,
                      durationUs := 64 * 2 ^ level.toNat, held := false, roleLost := false,
                      ofRound := false } })
      else
        exec (.measure code level) s =
          .next (afterReply (.measure code level) (bare .ok)
            { s with
              slot := .queued target level.toNat
              slotTimer := if s.hold then .running s.settings.holdLimit else s.slotTimer })

/-- MEASURE RESULT returns the slot in the layout of R189, with no side effect (R125). A command
with no request in hand stands for the whole exchange: the model's choice, log entry 4. -/
def Obligations.MeasureResultReturnsTheSlot : Prop :=
  let code : Target → Byte := fun target => match target with
    | .ref => 32#8
    | .channel j => BitVec.ofNat 8 j.val
  ∀ s : State, Takes .measureResult s → exec .measureResult s =
    .next (afterReply .measureResult
      { status := .ok
        payload := match s.slot with
          | .none => [0#8]
          | .queued t l => [1#8, code t, BitVec.ofNat 8 l]
          | .converting t l => [2#8, code t, BitVec.ofNat 8 l]
          | .done t l n range =>
            [3#8, code t, BitVec.ofNat 8 l, BitVec.ofNat 8 n, BitVec.ofNat 8 (n / 256),
              (match range with | .inRange => 0#8 | .low => 1#8 | .high => 2#8)]
          | .heldOff t l => [4#8, code t, BitVec.ofNat 8 l]
          | .aborted => [5#8] } s)

/-! ### The completion of a conversion -/

/-- The completion of a host conversion: where its slot is CONVERTING, a kept count makes the slot DONE
with its class, stops its timer and raises MEASURE_DONE, and a held one returns the slot to QUEUED; then
the arbiter grants what waits, a claim of the Scan Controller too. No record of the sensing chain
changes (R118, R123, R126). Where the slot is not CONVERTING nothing is handed on: the model's choice,
log entry 11. -/
def Obligations.HostConversionEndsInItsSlot : Prop :=
  ∀ (s : State) (cv : Conversion) (n : BitVec 12),
    blocksRun s = true → s.converter = some cv → cv.claimant = .host →
    (∀ target level, s.slot = .converting target level →
      (cv.held = false →
        ∃ (t : State) (events : EventSet), exec (.conversionComplete n) s = .next t
          ∧ (∀ e, events.has e = (s.events.has e || decide (e = .measureDone)))
          ∧ ConversionEnds
            { s with
              slot := .done target level n.toNat
                (if n.toNat ≤ 15 then .low else if 4080 ≤ n.toNat then .high else .inRange)
              slotTimer := .stopped
              events := events } t)
        ∧ (cv.held = true →
          ∃ t, exec (.conversionComplete n) s = .next t
            ∧ ConversionEnds { s with slot := .queued target level } t))
      ∧ ((∀ target level, s.slot ≠ .converting target level) →
        ∃ t, exec (.conversionComplete n) s = .next t ∧ ConversionEnds s t)

/-- The completion of a kept channel conversion of a RUNNING round with a further channel to take: the
sample event is applied and the next qualifying channel is claimed. The claim is granted at once, or
waits behind HOLD or a measurement; no contact and no zone changes (R112, R118, R145, R146). -/
def Obligations.KeptSampleTakesTheNextTurn : Prop :=
  ∀ (s : State) (cv : Conversion) (n : BitVec 12) (i j : Fin 32) (r : Round),
    blocksRun s = true → RoundConverts s cv → cv.target = .channel i → cv.held = false →
    cv.roleLost = false → s.scan.round = .running r →
    let c := Table.read s.channels i
    let o := sampleEvent s.settings s.reference.offset n.toNat c
    let channels := Table.write s.channels i { c with dyn := o.dyn }
    NextTurn r channels j →
    ∃ (t : State) (events : EventSet), exec (.conversionComplete n) s = .next t
      ∧ (∀ e, events.has e = (s.events.has e || decide (o.raised = some e)))
      ∧ ConversionEnds
        { s with
          channels := channels, events := events, scan := scanAtTurn r j s
          scanClaim := some (.channel j) } t

/-- A conversion of a RUNNING round that is discarded yields no sample. Held, its target is claimed
again; where its channel no longer qualifies the next turn is taken instead. Its role lost, it is not
repeated and the next turn is taken. The claim is granted at once, or waits behind HOLD or a measurement
(R113, R118, R119, R146). A conversion that a hold timeout left behind is discarded and the Scan
Controller does nothing, whatever round is in progress (R161; `ofRound`: log entry 10). -/
def Obligations.DiscardedConversionIsRepeatedOrPassed : Prop :=
  (∀ (s : State) (cv : Conversion) (n : BitVec 12) (r : Round),
      blocksRun s = true → RoundConverts s cv → s.scan.round = .running r →
      let ends := fun u => ∃ t, exec (.conversionComplete n) s = .next t ∧ ConversionEnds u t
      (cv.target = .ref → cv.held = true → ends { s with scanClaim := some .ref })
        ∧ (∀ i, cv.target = .channel i → cv.held = true → cv.roleLost = false →
          Qualifies r.kind (Table.read s.channels i) →
          ends { s with scanClaim := some (.channel i) })
        ∧ ∀ i j, cv.target = .channel i →
          (cv.roleLost = true
            ∨ (cv.held = true ∧ ¬ Qualifies r.kind (Table.read s.channels i))) →
          NextTurn r s.channels j →
          ends { s with scan := scanAtTurn r j s, scanClaim := some (.channel j) })
    ∧ ∀ (s : State) (cv : Conversion) (n : BitVec 12),
      blocksRun s = true → s.converter = some cv → cv.claimant = .scan → cv.ofRound = false →
      cv.held = true →
      ∃ t, exec (.conversionComplete n) s = .next t ∧ ConversionEnds s t

/-- The corrected count is the raw count less the offset times the weight over 16, truncated toward
zero, the result kept in 0..4095; every in-range sample of a channel in sensing, CALIBRATING too, stores
it as the last corrected count (R15, R137; in a recalibration: log entry 17). -/
def Obligations.CorrectedCountTruncatesTowardZero : Prop :=
  ∀ (offset : Int) (weight raw : Nat), ∃ q : Int,
    q.natAbs = (offset * weight).natAbs / 16 ∧ (0 < q → 0 < offset) ∧ (q < 0 → offset < 0)
      ∧ (correctedCount offset weight raw : Int) =
        (if (raw : Int) - q < 0 then 0 else if 4095 < (raw : Int) - q then 4095
          else (raw : Int) - q)
      ∧ ∀ (g : Settings) (c : Channel), c.config.referenceWeight = weight → c.dyn.state ≠ .off →
        c.dyn.state ≠ .fault → 15 < raw → raw < 4080 →
        (sampleEvent g offset raw c).dyn.lastCorrected = correctedCount offset weight raw

/-- A reference sample out of range is noise with REFERENCE_FAULT and changes nothing else. In range
under UNSET it is captured as the baseline, with offset 0. Under SET an offset within the reference
limit is stored and sets the noise count to 0; a larger one counts as noise until the count reaches the
noise limit, and then the baseline is recaptured with REFERENCE_RECAPTURED (R132 to R135). -/
def Obligations.ReferenceSampleHasFiveCases : Prop :=
  ∀ (g : Settings) (raw : Nat) (r : Reference),
    let o := judgeReference g raw r
    let offset := (raw : Int) - (r.baseline : Int)
    if raw ≤ 15 ∨ 4080 ≤ raw then
      o = { reference := r, verdict := .noise, raised := some .referenceFault }
    else if r.state = .unset then
      o = { reference := { state := .set, baseline := raw, offset := 0, noiseCount := 0 },
            verdict := .proceed, raised := none }
    else if -(g.referenceLimit : Int) ≤ offset ∧ offset ≤ (g.referenceLimit : Int) then
      o = { reference := { r with offset := offset, noiseCount := 0 }, verdict := .proceed,
            raised := none }
    else if r.noiseCount + 1 < g.noiseLimit then
      o = { reference := { r with noiseCount := r.noiseCount + 1 }, verdict := .noise,
            raised := none }
    else
      o = { reference := { state := .set, baseline := raw, offset := 0, noiseCount := 0 },
            verdict := .proceed, raised := some .referenceRecaptured }

/-- The verdict of a kept REF conversion moves the RUNNING round: a noise round ends with the counter
advanced, no channel sampled and nothing passed on, and where the timer of its kind is EXPIRED
ROUND_OVERRUN is raised and the next round starts at once; a round that proceeds claims its first
qualifying channel. What is claimed is granted at once, or waits behind HOLD or a measurement (R118,
R144, R145, R149, R152). -/
def Obligations.VerdictMovesTheRound : Prop :=
  ∀ (s : State) (cv : Conversion) (n : BitVec 12) (r : Round),
    blocksRun s = true → RoundConverts s cv → cv.target = .ref → cv.held = false →
    s.scan.round = .running r → RoundKindLaw s →
    let o := judgeReference s.settings n.toNat s.reference
    let late := decide ((if r.kind = .active then s.scan.roundTimer else s.scan.watchTimer) = .expired)
    (o.verdict = .noise →
        ∃ (t : State) (events : EventSet), exec (.conversionComplete n) s = .next t
          ∧ (∀ e, events.has e =
              (s.events.has e || decide (o.raised = some e) || (late && decide (e = .roundOverrun))))
          ∧ ConversionEnds
            { s with
              reference := o.reference, events := events
              scan := if late then scanAtStart r.kind s (scanAtEnd s) else scanAtEnd s
              scanClaim := if late then some .ref else s.scanClaim } t)
      ∧ ∀ j, o.verdict = .proceed → NextTurn r s.channels j →
        ∃ (t : State) (events : EventSet), exec (.conversionComplete n) s = .next t
          ∧ (∀ e, events.has e = (s.events.has e || decide (o.raised = some e)))
          ∧ ConversionEnds
            { s with
              reference := o.reference, events := events, scan := scanAtTurn r j s
              scanClaim := some (.channel j) } t

/-- A CLOSING round ends at its conversion's completion by abandonment: what the completion hands on
stands, the counter does not advance and no contact changes. Then PAUSED runs nothing, ACTIVE starts its
round, and WATCH sets the unwatched touched channels to QUIET and starts a round if the watch timer is
EXPIRED (R148, R154, R156, R158). -/
def Obligations.ClosingRoundEndsByAbandonment : Prop :=
  ∀ (s : State) (cv : Conversion) (n : BitVec 12) (r : Round),
    blocksRun s = true → RoundConverts s cv → s.scan.round = .closing r →
    let u : State :=
      if cv.roleLost = true ∧ cv.target ≠ .ref then s
      else if cv.held = true then s
      else match cv.target with
        | .ref => applyReference n.toNat s
        | .channel i => applySample i n.toNat s
    let idle : Scan := { s.scan with round := .idle }
    ∃ t, exec (.conversionComplete n) s = .next t
      ∧ (s.scan.mode = .paused → ConversionEnds { u with scan := idle } t)
      ∧ (s.scan.mode = .active →
        ConversionEnds { u with scan := scanAtStart .active s idle, scanClaim := some .ref } t)
      ∧ (s.scan.mode = .watch → ∃ channels : Vector Channel 32,
        (∀ i, Table.read channels i =
          (let c := Table.read u.channels i
          if c.config.role = .sense ∧ c.config.watch = false ∧
              (c.dyn.state = .arming ∨ c.dyn.state = .touched ∨ c.dyn.state = .releasing)
          then { c with dyn := { c.dyn with state := .quiet, debounce := 0, onTime := 0 } }
          else c))
          ∧ (if s.scan.watchTimer = .expired then
              ConversionEnds
                { u with
                  channels := channels, scan := scanAtStart .watch s idle, scanClaim := some .ref } t
            else ConversionEnds { u with channels := channels, scan := idle } t))

/-- The end of a completed ACTIVE round that was not a noise round, whichever outcome ends it.
Round-end processing runs on what that outcome leaves, in its four stages: ageing, expiry, the zones in
ascending index, mark clearing; their status events are raised. The counter advances, and exactly when
the round timer is EXPIRED ROUND_OVERRUN is raised and a new round starts at once (R73, R77, R83, R147
to R151). -/
def Obligations.ActiveRoundEndIsResolved : Prop :=
  ∀ (s u : State) (n : BitVec 12) (r : Round),
    blocksRun s = true → r.kind = .active → s.scan.mode = .active → LastOutcome n.toNat r s u →
    let resolved := (List.finRange 16).foldl resolveZone (expiryStage (ageingStage u))
    let late := decide (s.scan.roundTimer = .expired)
    ∃ (t : State) (channels : Vector Channel 32) (events : EventSet),
      exec (.conversionComplete n) s = .next t
        ∧ (∀ k, Table.read channels k =
            (let c := Table.read u.channels k
            { c with dyn := { c.dyn with mark := .none } }))
        ∧ (∀ e, events.has e = (resolved.events.has e || (late && decide (e = .roundOverrun))))
        ∧ ConversionEnds
          { resolved with
            channels := channels, events := events
            scan := if late then scanAtStart .active s (scanAtEnd s) else scanAtEnd s
            scanClaim := if late then some .ref else s.scanClaim } t

/-- The end of a completed WATCH round that was not a noise round, whichever outcome ends it: no
resolution runs, the counter advances, and ROUND_OVERRUN is raised exactly when the watch timer is
EXPIRED. Where a SENSE channel with its watch flag on is TOUCHED the part wakes: mode ACTIVE, WOKEN
raised, the watch timer stopped and an ACTIVE round started at once; otherwise the mode stays WATCH and
a late round is followed by the next at once (R147 to R151, R159). -/
def Obligations.WatchRoundEndWakes : Prop :=
  ∀ (s u : State) (n : BitVec 12) (r : Round),
    blocksRun s = true → r.kind = .watch → s.scan.mode = .watch → LastOutcome n.toNat r s u →
    let touched := ∃ k, (Table.read u.channels k).config.role = .sense
      ∧ (Table.read u.channels k).config.watch = true
      ∧ (Table.read u.channels k).dyn.state = .touched
    let late := decide (s.scan.watchTimer = .expired)
    ∃ (t : State) (events : EventSet), exec (.conversionComplete n) s = .next t
      ∧ (∀ e, events.has e = true ↔
          u.events.has e = true ∨ (late = true ∧ e = .roundOverrun) ∨ (touched ∧ e = .woken))
      ∧ (touched →
        ConversionEnds
          { u with
            events := events
            scan := scanAtStart .active s { scanAtEnd s with mode := .active }
            scanClaim := some .ref } t)
      ∧ (¬ touched →
        ConversionEnds
          { u with
            events := events
            scan := if late then scanAtStart .watch s (scanAtEnd s) else scanAtEnd s
            scanClaim := if late then some .ref else s.scanClaim } t)

/-! ### Timers and HOLD -/

/-- The expiry of the running timer of the present mode with the round state IDLE starts a round of
that kind: the timer afresh, the other STOPPED, the hold-limit timer started under HOLD, REF claimed and
the claim granted if the converter is IDLE and HOLD released. With the round state other than IDLE the
timer is EXPIRED and nothing else changes, whatever claim waits (R118, R143, R148, R149, R160). -/
def Obligations.TimerExpiryStartsARound : Prop :=
  ∀ (s : State) (ms : Nat), blocksRun s = true → ScanningLaw s →
    (s.scan.roundTimer = .running ms →
        (s.scan.mode = .active → s.scan.round = .idle →
          ∃ t, exec .roundTimerExpiry s = .next t
            ∧ GrantedFrom
              { s with scan := scanAtStart .active s s.scan, scanClaim := some .ref } t)
          ∧ (s.scan.round ≠ .idle →
            exec .roundTimerExpiry s =
              .next { s with scan := { s.scan with roundTimer := .expired } }))
      ∧ (s.scan.watchTimer = .running ms →
        (s.scan.mode = .watch → s.scan.round = .idle →
          ∃ t, exec .watchTimerExpiry s = .next t
            ∧ GrantedFrom
              { s with scan := scanAtStart .watch s s.scan, scanClaim := some .ref } t)
          ∧ (s.scan.round ≠ .idle →
            exec .watchTimerExpiry s =
              .next { s with scan := { s.scan with watchTimer := .expired } }))

/-- HOLD asserting marks the conversion in flight held and starts the hold-limit timers where their
conditions hold. HOLD releasing stops both timers, ends a hold wait with the present mode's timer
afresh, and grants what waits if the converter is IDLE: a measurement first, else a claim of the Scan
Controller for REF or a channel (R118, R120, R161, R162). While a power-on or pin reset is in
progress or the supply is down, the level alone follows: log entry 14. An edge to the level that HOLD
has already is none: log entry 6. -/
def Obligations.HoldEdgesActAtTheBlocks : Prop :=
  (∀ s : State, blocksRun s = true → s.hold = false →
      exec .holdAssert s =
        .next { s with
          hold := true
          converter := s.converter.map fun cv => { cv with held := true }
          slotTimer := if s.slot.isOutstanding then .running s.settings.holdLimit else s.slotTimer
          scan := { s.scan with
            holdTimer := match s.scan.round with
              | .running _ => .running s.settings.holdLimit
              | .idle => s.scan.holdTimer
              | .closing _ => s.scan.holdTimer
              | .holdWait => s.scan.holdTimer } })
    ∧ (∀ s : State,
      (s.power = .unpowered ∨ s.power = .pinReset ∨ ∃ b, s.power = .powerOnReset b) →
        exec .holdAssert s = .next { s with hold := true }
          ∧ exec .holdRelease s = .next { s with hold := false })
    ∧ (∀ s : State,
      (s.hold = true → exec .holdAssert s = .next s)
        ∧ (s.hold = false → exec .holdRelease s = .next s))
    ∧ ∀ s : State, blocksRun s = true → s.hold = true →
      ∃ t, exec .holdRelease s = .next t
        ∧ GrantedFrom
          { s with
            hold := false
            slotTimer := .stopped
            scan := { s.scan with
              holdTimer := .stopped
              round := if s.scan.round = .holdWait then .idle else s.scan.round
              roundTimer := if s.scan.round = .holdWait ∧ s.scan.mode = .active then
                .running s.settings.roundInterval else s.scan.roundTimer
              watchTimer := if s.scan.round = .holdWait ∧ s.scan.mode = .watch then
                .running (50 * s.settings.watchInterval) else s.scan.watchTimer } } t

/-- The hold-limit timers. The round's expires: the RUNNING round is abandoned into HOLD_WAIT with
HOLD_TIMEOUT, its claim withdrawn, all its timers stopped, its conversion in flight no longer its
own, the counter as it was (R161). The measurement's expires: the slot is HELD_OFF with its target
and level, and no event is raised (R124). `ofRound` is the model's choice, log entry 10. -/
def Obligations.HoldLimitsExpire : Prop :=
  (∀ (s : State) (ms : Nat) (r : Round), blocksRun s = true → s.scan.holdTimer = .running ms →
      s.scan.round = .running r →
      ∃ t, exec .roundHoldLimitExpiry s = .next t
        ∧ (∀ e, t.events.has e = (s.events.has e || decide (e = .holdTimeout)))
        ∧ (∀ cv, t.converter = some cv → cv.claimant = .scan → cv.ofRound = false)
        ∧ t = { s with
            events := t.events, attn := t.attn, scanClaim := none
            converter := s.converter.map fun cv =>
              { cv with ofRound := cv.ofRound && decide (cv.claimant = .host) }
            scan := { s.scan with
              round := .holdWait, roundTimer := .stopped, watchTimer := .stopped,
              holdTimer := .stopped } })
    ∧ ∀ (s : State) (ms : Nat) (target : Target) (level : Nat), blocksRun s = true →
      s.slotTimer = .running ms →
      (s.slot = .queued target level ∨ s.slot = .converting target level) →
      exec .measureHoldLimitExpiry s =
        .next { s with slot := .heldOff target level, slotTimer := .stopped }

/-! ### Supply and resets -/

/-- A power-on reset. POWER_ON releases ATTN, stops a running conversion with the pins at high
impedance, abandons the transaction and the request in hand and leaves no address acknowledged; what
else the part holds, the level of RSTN and of HOLD among it, stays. START_UP_COMPLETE with RSTN high
leaves every block in its full-reset state with cause POWER and the NO_REQUEST reply; with RSTN low it
waits for RSTN to rise. SUPPLY_FALL leaves the part unpowered (R107, R127, R181). When each effect
comes, and what the unpowered part shows, are the model's choices, log entries 2, 7 and 14. -/
def Obligations.PowerOnResetRuns : Prop :=
  (∀ s : State, ∃ t, exec .powerOn s = .next t
      ∧ (∀ p, Table.read t.drive p = .highImpedance)
      ∧ t = { s with
          power := .powerOnReset false, attn := false, converter := none, scanClaim := none
          slotTimer := .stopped, drive := t.drive
          scan := { s.scan with holdTimer := .stopped }
          port := { frame := [], frameCount := 0, reply := s.port.reply, executing := false,
                    sdaLow := false, timeoutRunning := false } }
      ∧ ∀ address, acknowledges address t = false)
    ∧ (∀ (s : State) (b level : Bool), s.power = .powerOnReset b →
        (s.rstnLow = true →
          exec (.startUpComplete level) s = .next { s with power := .powerOnReset true })
        ∧ (s.rstnLow = false →
          exec (.startUpComplete level) s =
            .next { State.reset with
              pending := s.pending, rstnLow := s.rstnLow, hold := s.hold, adselHigh := level,
              bus := s.bus, supplyFalls := s.supplyFalls }))
    ∧ ∀ s : State, ∃ t, exec .supplyFall s = .next t ∧ t.power = .unpowered
      ∧ (∀ address, acknowledges address t = false)
      ∧ t = { s with power := .unpowered, attn := t.attn, drive := t.drive,
                     supplyFalls := t.supplyFalls }

/-- A pin reset. RSTN low, with the supply up and no power-on reset in progress, abandons the
transaction and any request still executing, releases ATTN and puts every block in its full-reset
state; its rise completes the reset with cause PIN, ADSEL sampled, and the NO_REQUEST reply (R182). A
rise that a started-up power-on reset waits for completes that one, with cause POWER; within a power-on
reset that has not started up, and without supply, RSTN's level alone follows (R181). When ADSEL is
sampled, and that the status event set holds RESET_DONE before RSTN has risen, are the model's choices,
log entries 7 and 14. -/
def Obligations.PinResetRuns : Prop :=
  (∀ s : State, blocksRun s = true →
      exec .rstnLow s =
        .next { State.reset with
          pending := s.pending, power := .pinReset, rstnLow := true, hold := s.hold,
          adselHigh := s.adselHigh, attn := false, bus := s.bus, resetCause := s.resetCause,
          supplyFalls := s.supplyFalls
          port := { frame := [], frameCount := 0, reply := s.port.reply, executing := false,
                    sdaLow := false, timeoutRunning := false } })
    ∧ (∀ s : State, (s.power = .unpowered ∨ ∃ b, s.power = .powerOnReset b) →
      exec .rstnLow s = .next { s with rstnLow := true })
    ∧ (∀ (s : State) (level : Bool), (s.power = .unpowered ∨ s.power = .powerOnReset false) →
      exec (.rstnRise level) s = .next { s with rstnLow := false })
    ∧ ∀ (s : State) (level : Bool), s.rstnLow = true →
      (s.power = .pinReset →
        exec (.rstnRise level) s =
          .next { State.reset with
            pending := s.pending, hold := s.hold, adselHigh := level, bus := s.bus,
            resetCause := .pin, supplyFalls := s.supplyFalls })
        ∧ (s.power = .powerOnReset true →
          exec (.rstnRise level) s =
            .next { State.reset with
              pending := s.pending, hold := s.hold, adselHigh := level, bus := s.bus,
              resetCause := .power, supplyFalls := s.supplyFalls })

/-- RESET FULL puts every block in its full-reset state at once, with the slot ABORTED, cause FULL,
the OK reply in the buffer, ATTN released and the executing flag on until the reset completes (R128,
R180). A command with no request in hand stands for the whole exchange: the model's choice, log
entry 4. -/
def Obligations.ResetFullResetsEveryBlock : Prop :=
  ∀ s : State, Takes .resetFull s → exec .resetFull s =
    .next { State.reset with
      pending := s.pending, power := .requestedReset .full, rstnLow := s.rstnLow, hold := s.hold,
      adselHigh := s.adselHigh, attn := false,
      bus := if s.port.executing then s.bus else .written (requestFrameOf .resetFull).length,
      resetCause := .full, slot := .aborted, supplyFalls := s.supplyFalls
      port := { frame := [], frameCount := 0, reply := bare .ok, executing := true,
                sdaLow := false, timeoutRunning := false } }

/-- RESET SCAN keeps settings, channel configuration, zone definitions, mode, ADSEL as sampled, the
levels at the inputs and the queue, empties the contacts, the reference and the slot, puts each SENSE
channel into CALIBRATING from nothing, stops a conversion with its pins at their drive between
conversions, and restarts the rounds by mode, the hold-limit timer running only for a round that starts
under HOLD (R25, R46, R86, R115, R127, R141, R164). REF's conversion holds the pins at that same drive
(R115). A command with no request in hand stands for the whole exchange: the model's choice, log entry
4. -/
def Obligations.ResetScanKeepsTheConfiguration : Prop :=
  ∀ s : State, Takes .resetScan s →
    let cleared : ChannelState → ChannelDynamics := fun state =>
      { state := state, baseline := 0, source := .none, lastRaw := 0, lastCorrected := 0,
        lastDelta := 0, debounce := 0, onTime := 0, driftCount := 0, invertedCount := 0,
        outOfRange := 0, faultCause := .none, accumulator := 0, samplesTaken := 0,
        mark := .none }
    ∃ t, exec .resetScan s = .next t
    ∧ t.pending = s.pending ∧ t.rstnLow = s.rstnLow ∧ t.supplyFalls = s.supplyFalls
    ∧ t.bus = (if s.port.executing then s.bus else .written (requestFrameOf .resetScan).length)
    ∧ t.settings = s.settings ∧ t.scan.mode = s.scan.mode ∧ t.scan.counter = 0
    ∧ (∀ i, Table.read t.channels i =
        { config := (Table.read s.channels i).config
          dyn := cleared (if (Table.read s.channels i).config.role = .sense then .calibrating
            else .off) })
    ∧ (∀ i, Table.read t.zones i = (Table.read s.zones i).map fun z =>
        { z with current := none, pending := false, dropped := false })
    ∧ t.contacts = [] ∧ t.nextId = 1 ∧ (∀ e, t.events.has e = true ↔ e = .resetDone)
    ∧ t.resetCause = .scan ∧ t.slot = .aborted ∧ t.slotTimer = .stopped
    ∧ t.reference = { state := .unset, baseline := 0, offset := 0, noiseCount := 0 }
    ∧ t.power = .requestedReset .scan ∧ t.attn = false
    ∧ t.port = { frame := [], frameCount := 0, reply := bare .ok, executing := true, sdaLow := false,
                 timeoutRunning := false }
    ∧ t.adselHigh = s.adselHigh ∧ t.hold = s.hold
    ∧ RestingPins s t.drive
    ∧ (match s.scan.mode with
      | .paused =>
        t.scan.round = .idle ∧ t.scan.roundTimer = .stopped ∧ t.scan.watchTimer = .stopped
          ∧ t.converter = none ∧ t.scanClaim = none ∧ t.scan.holdTimer = .stopped
      | .active =>
        t.scan.round = .running { kind := .active, phase := .reference, last := none }
          ∧ t.scan.roundTimer = .running s.settings.roundInterval
          ∧ t.scan.watchTimer = .stopped
          ∧ (if s.hold then t.converter = none ∧ t.scanClaim = some .ref
              ∧ t.scan.holdTimer = .running s.settings.holdLimit
            else t.converter = some (referenceConversion s) ∧ t.scanClaim = none
              ∧ t.scan.holdTimer = .stopped)
      | .watch =>
        t.scan.round = .idle ∧ t.scan.roundTimer = .stopped
          ∧ t.scan.watchTimer = .running (50 * s.settings.watchInterval)
          ∧ t.converter = none ∧ t.scanClaim = none ∧ t.scan.holdTimer = .stopped)

/-- A requested reset completes: the Contact Table is empty, the status event set is {RESET_DONE}, ATTN
is asserted exactly when RESET_DONE is enabled, the executing flag goes off, and ADSEL is sampled after
FULL alone (R107, R165, R180). That the level comes with the command, and that what came about while the
reset was in progress is gone, are the model's choices, log entries 7 and 14. -/
def Obligations.RequestedResetCompletes : Prop :=
  ∀ (s : State) (kind : ResetKind) (level : Bool), s.power = .requestedReset kind →
    ∃ t, exec (.resetComplete level) s = .next t
      ∧ (∀ i, Table.read t.zones i = (Table.read s.zones i).map fun z =>
          { z with current := none, pending := false, dropped := false })
      ∧ (∀ e, t.events.has e = true ↔ e = .resetDone)
      ∧ t = { s with
          power := .running, attn := t.attn, contacts := [], nextId := 1, zones := t.zones
          events := t.events
          adselHigh := if kind = .full then level else s.adselHigh
          port := { frame := [], frameCount := 0, reply := s.port.reply, executing := false,
                    sdaLow := false, timeoutRunning := false } }
      ∧ (t.attn = true ↔ s.settings.attentionMask.has .resetDone = true)

/-! ### The sample event -/

/-- An out-of-range sample changes the last raw count and the out-of-range count alone; the one that
brings the count to 3 puts the channel in FAULT with the class of that sample, the FAULT mark if it was
touched, and CHANNEL_FAULT raised in the status event set (R12 to R14; in a recalibration: log entry
17). -/
def Obligations.OutOfRangeSamplesLeadToFault : Prop :=
  ∀ (s : State) (i : Fin 32) (raw : Nat),
    let c := Table.read s.channels i
    let d := c.dyn
    c.dyn.state ≠ .off → c.dyn.state ≠ .fault → (raw ≤ 15 ∨ 4080 ≤ raw) →
    let faulted := ¬ (d.outOfRange + 1 < 3)
    let dyn : ChannelDynamics :=
      if faulted then
        { d with
          lastRaw := raw, outOfRange := 3, state := .fault
          faultCause := if raw ≤ 15 then .low else .high
          mark := if d.state = .touched ∨ d.state = .releasing then .fault else d.mark
          debounce := 0, onTime := 0, driftCount := 0, invertedCount := 0, accumulator := 0,
          samplesTaken := 0 }
      else
        { d with
          lastRaw := raw, outOfRange := d.outOfRange + 1 }
    ∃ events : EventSet,
      (∀ e, events.has e = (s.events.has e || decide (faulted ∧ e = .channelFault)))
        ∧ applySample i raw s =
          { s with channels := Table.write s.channels i { c with dyn := dyn }, events := events }

/-- The touch table of R16 to R20: state, debounce count and on-time after an in-range sample that no
stuck test ends, by the state it finds. -/
def Obligations.TouchTableIsFollowed : Prop :=
  ∀ (g : Settings) (offset : Int) (raw : Nat) (c : Channel),
    15 < raw → raw < 4080 →
    let d := c.dyn
    let k := c.config
    let corrected := correctedCount offset k.referenceWeight raw
    let delta := (corrected : Int) - (d.baseline : Int)
    let touch := (k.touchThreshold : Int) ≤ delta
    let release := delta < (k.releaseThreshold : Int)
    let time := min 65535 (d.onTime + 1)
    let o := (sampleEvent g offset raw c).dyn
    let is := fun (state : ChannelState) (count onTime : Nat) =>
      o.state = state ∧ o.debounce = count ∧ o.onTime = onTime ∧ o.mark = d.mark
        ∧ o.lastRaw = raw ∧ o.lastCorrected = corrected ∧ o.outOfRange = 0
    (d.state = .quiet → d.onTime = 0 →
        if touch then (if k.debounceIn ≤ 1 then is .touched 0 0 else is .arming 1 0)
        else is .quiet 0 0)
      ∧ (d.state = .arming → d.onTime = 0 →
        if touch then
          (if k.debounceIn ≤ d.debounce + 1 then is .touched 0 0
            else is .arming (d.debounce + 1) 0)
        else is .quiet 0 0)
      ∧ (d.state = .touched → (g.maxOn = 0 ∨ time < g.maxOn) →
        if release then (if k.debounceOut ≤ 1 then is .quiet 0 0 else is .releasing 1 time)
        else is .touched 0 time)
      ∧ (d.state = .releasing → (g.maxOn = 0 ∨ time < g.maxOn) →
        if release then
          (if k.debounceOut ≤ d.debounce + 1 then is .quiet 0 0
            else is .releasing (d.debounce + 1) time)
        else is .touched 0 time)

/-- What sets a baseline (R28, R30, R36, R38, R39): the completion of calibration, the mean rounded
down; a drift step, at most the drift step and never past the corrected count; an inverted re-baseline
and stuck recalibration, the corrected count, with REBASELINED; each with its source and the last delta
brought up to date. No other sample event does: not an out-of-range sample, none in OFF or FAULT, and in
ARMING, TOUCHED or RELEASING none but stuck recalibration, whatever state it leaves (R41). Every in-range
sample stores its raw count, its corrected count and its delta and sets the out-of-range count to 0, in
CALIBRATING too, and none but stuck recalibration sets a leave mark (R12, R15). Outside the sample events
of the channel no command changes its baseline, its source, its last counts or its last delta, through a
recalibration or not, but that a role change and the resets set them to 0 and NONE (R29). That R29 speaks
of the time outside sample events is read from its first sentence, log entry 17. -/
def Obligations.BaselineMechanisms : Prop :=
  (∀ (g : Settings) (offset : Int) (raw : Nat) (c : Channel),
    let d := c.dyn
    let corrected := correctedCount offset c.config.referenceWeight raw
    let delta := (corrected : Int) - (d.baseline : Int)
    let mean := (d.accumulator + corrected) / (d.samplesTaken + 1)
    let e := sampleEvent g offset raw c
    let o := e.dyn
    let quietUntouched := d.state = .quiet ∧ delta < (c.config.touchThreshold : Int)
    let eligible := quietUntouched ∧ -(g.invertedLimit : Int) < delta
    let inverted := quietUntouched ∧ delta ≤ -(g.invertedLimit : Int)
    let stuck := (d.state = .touched ∨ d.state = .releasing) ∧ g.maxOn ≠ 0
      ∧ g.maxOn ≤ min 65535 (d.onTime + 1)
    let kept := o.baseline = d.baseline ∧ o.source = d.source
    (raw ≤ 15 ∨ 4080 ≤ raw ∨ d.state = .off ∨ d.state = .fault → kept) ∧ (15 < raw → raw < 4080 →
    (d.state ≠ .off → d.state ≠ .fault →
        o.lastRaw = raw ∧ o.lastCorrected = corrected ∧ o.outOfRange = 0
          ∧ o.faultCause = d.faultCause ∧ (¬ stuck → o.mark = d.mark))
      ∧ (d.state = .calibrating → g.calibrationSamples ≤ d.samplesTaken + 1 →
        e.raised = none
          ∧ o = { d with
              state := .quiet, baseline := mean, source := .calibrated
              lastRaw := raw, lastCorrected := corrected
              lastDelta := (corrected : Int) - (mean : Int), outOfRange := 0
              accumulator := 0, samplesTaken := 0, debounce := 0, onTime := 0, driftCount := 0
              invertedCount := 0 })
      ∧ (d.state = .calibrating → d.samplesTaken + 1 < g.calibrationSamples →
        e.raised = none
          ∧ o = { d with
              lastRaw := raw, lastCorrected := corrected, lastDelta := delta, outOfRange := 0
              accumulator := d.accumulator + corrected, samplesTaken := d.samplesTaken + 1 })
      ∧ (eligible → d.driftCount + 1 < g.driftInterval →
        o.baseline = d.baseline ∧ o.source = d.source ∧ o.driftCount = d.driftCount + 1
          ∧ o.invertedCount = 0 ∧ o.lastDelta = delta ∧ e.raised = none)
      ∧ (eligible → g.driftInterval ≤ d.driftCount + 1 →
        o.driftCount = 0 ∧ o.invertedCount = 0
          ∧ o.lastDelta = (corrected : Int) - (o.baseline : Int) ∧ e.raised = none
          ∧ (o.baseline : Int) =
            (d.baseline : Int) + max (-(g.driftStep : Int)) (min (g.driftStep : Int) delta)
          ∧ o.source = (if delta = 0 then d.source else .drifted))
      ∧ (inverted → d.invertedCount + 1 < g.invertedRounds →
        o.baseline = d.baseline ∧ o.source = d.source ∧ o.invertedCount = d.invertedCount + 1
          ∧ o.driftCount = d.driftCount ∧ o.lastDelta = delta ∧ e.raised = none)
      ∧ (inverted → g.invertedRounds ≤ d.invertedCount + 1 →
        o.baseline = corrected ∧ o.source = .inverted ∧ o.lastDelta = 0 ∧ o.invertedCount = 0
          ∧ o.driftCount = 0 ∧ o.state = .quiet ∧ e.raised = some .rebaselined)
      ∧ (stuck →
        e.raised = some .rebaselined
          ∧ o = { d with
              state := .quiet, baseline := corrected, source := .stuck
              lastRaw := raw, lastCorrected := corrected, lastDelta := 0, outOfRange := 0
              debounce := 0, onTime := 0, driftCount := 0, invertedCount := 0
              mark := if d.mark = .fault then .fault else .stuck })
      ∧ (d.state = .quiet → (c.config.touchThreshold : Int) ≤ delta → kept ∧ o.lastDelta = delta)
      ∧ (d.state = .arming → kept ∧ o.lastDelta = delta)
      ∧ ((d.state = .touched ∨ d.state = .releasing) → ¬ stuck → kept ∧ o.lastDelta = delta)))
    ∧ ∀ (a : Instr) (s t : State) (i : Fin 32), exec a s = .next t →
      let d := (Table.read s.channels i).dyn
      let d' := (Table.read t.channels i).dyn
      (d'.baseline = d.baseline ∧ d'.source = d.source ∧ d'.lastRaw = d.lastRaw
          ∧ d'.lastCorrected = d.lastCorrected ∧ d'.lastDelta = d.lastDelta)
        ∨ (∃ n cv, a = .conversionComplete n ∧ s.converter = some cv ∧ cv.claimant = .scan
            ∧ cv.target = .channel i ∧ cv.held = false ∧ cv.roleLost = false)
        ∨ (d'.baseline = 0 ∧ d'.source = .none ∧ d'.lastRaw = 0 ∧ d'.lastCorrected = 0
            ∧ d'.lastDelta = 0
            ∧ ((∃ role, a = .setRole (BitVec.ofNat 8 i.val) role) ∨ a = .resetFull ∨ a = .resetScan
              ∨ a = .rstnLow ∨ (∃ b, a = .rstnRise b) ∨ ∃ b, a = .startUpComplete b))

/-! ### Zones and contacts at a resolution -/

/-- With a three-point sum other than 0, a slider's position is `1023 × (k + offset) / (n − 1)` rounded
to nearest, halves upward, without the clamp acting, and a wheel's is `1024 × (k + offset) / n` so
rounded, modulo 1024, where `k` is the lowest place of a largest contribution (R55 to R57). A slider's
finger on its first or last member alone is at the end of the scale. A member contributes its last delta
clipped at 0, or 0 in CALIBRATING or FAULT, and the strength is the largest contribution (R54). A zone's
position is that formula's; with every contribution 0 it is the contact's position as it stood, or 0
where there is none, and a BUTTON has none (R58). -/
def Obligations.PositionsFollowTheFormula : Prop :=
  (∀ (kind : ZoneKind) (d : List Nat), kind ≠ .button → 2 ≤ d.length → threePointSum kind d ≠ 0 →
      let k := peakOf d
      let n : Int := d.length
      let here : Int := d.getD k 0
      let prev : Int :=
        if kind = .wheel then d.getD ((k + d.length - 1) % d.length) 0
        else if k = 0 then 0 else d.getD (k - 1) 0
      let next : Int :=
        if kind = .wheel then d.getD ((k + 1) % d.length) 0 else d.getD (k + 1) 0
      let sum := prev + here + next
      k < d.length ∧ (∀ m ∈ d, (m : Int) ≤ here) ∧ (∀ m ∈ d.take k, (m : Int) < here)
        ∧ (kind = .slider → ∃ p : Nat, sliderPosition d = p ∧ p ≤ 1023
          ∧ (2 * p - 1) * (sum * (n - 1)) ≤ 2 * (1023 * (k * sum + (next - prev)))
          ∧ 2 * (1023 * (k * sum + (next - prev))) < (2 * p + 1) * (sum * (n - 1)))
        ∧ (kind = .wheel → ∃ (p : Nat) (turns : Int), wheelPosition d = p ∧ p ≤ 1023
          ∧ (2 * (p + 1024 * turns) - 1) * (sum * n) ≤ 2 * (1024 * (k * sum + (next - prev)))
          ∧ 2 * (1024 * (k * sum + (next - prev))) < (2 * (p + 1024 * turns) + 1) * (sum * n)))
    ∧ (∀ (n x : Nat), 1 ≤ n → 0 < x →
      sliderPosition (x :: List.replicate n 0) = 0
        ∧ sliderPosition (List.replicate n 0 ++ [x]) = 1023)
    ∧ (∀ (channels : Vector Channel 32) (z : Zone),
      contributions channels z = z.members.map fun m =>
        let d := (Table.read channels m).dyn
        if d.state = .quiet ∨ d.state = .arming ∨ d.state = .touched ∨ d.state = .releasing then
          (if 0 < d.lastDelta then d.lastDelta.toNat else 0)
        else 0)
    ∧ (∀ d : List Nat, d ≠ [] → strengthOf d ∈ d ∧ ∀ x ∈ d, x ≤ strengthOf d)
    ∧ ∀ (d : List Nat) (previous : Option Nat), d ≠ [] →
      zonePosition .button d previous = none
        ∧ ((∀ x ∈ d, x = 0) →
          zonePosition .slider d previous = some (previous.getD 0)
            ∧ zonePosition .wheel d previous = some (previous.getD 0))
        ∧ ((∃ x ∈ d, x ≠ 0) →
          threePointSum .slider d ≠ 0 ∧ zonePosition .slider d previous = some (sliderPosition d)
            ∧ threePointSum .wheel d ≠ 0
            ∧ zonePosition .wheel d previous = some (wheelPosition d))

/-- The resolution of one DEFINED zone (R77 to R82): update, creation, pending, lift or drop. A FREE
zone is not resolved (R60, R77). -/
def Obligations.ZoneResolutionCases : Prop :=
  (∀ (s : State) (i : Fin 16), Table.read s.zones i = none → resolveZone s i = s)
    ∧ ∀ (s : State) (i : Fin 16) (z : Zone), Table.read s.zones i = some z →
    let touched := ∃ m ∈ z.members, (Table.read s.channels m).dyn.state = .touched
      ∨ (Table.read s.channels m).dyn.state = .releasing
    let mark := fun (k : LeaveMark) => ∃ m ∈ z.members, (Table.read s.channels m).dyn.mark = k
    let d := contributions s.channels z
    let t := resolveZone s i
    (∀ id, touched → z.current = some id →
        t = { s with contacts := s.contacts.map fun c =>
          if c.id = id then updateByZone s.channels z c else c })
      ∧ (touched → z.current = none → s.contacts.length < 10 →
        ∃ id travel, id = freeId s.contacts s.nextId ∧ travel = zonePosition z.kind d none
          ∧ t = { s with
            contacts := s.contacts ++
              [{ id := id, zone := i, state := .down
                 changes := { appeared := true, moved := false, lifted := false }
                 revision := 1
                 travel := travel.map fun p => { position := p, reported := p }
                 strength := strengthOf d, age := 0 }]
            nextId := if 255 ≤ id then 1 else id + 1
            zones := Table.write s.zones i
              (some { z with current := some id, pending := false, dropped := false }) })
      ∧ (touched → z.current = none → 10 ≤ s.contacts.length →
        t = { s with zones := Table.write s.zones i (some { z with pending := true }) })
      ∧ (∀ id, ¬ touched → z.current = some id →
        t = { s with
          contacts := s.contacts.map fun c =>
            if c.id = id then
              { c with
                state := .lifted
                  (if mark .fault then .fault else if mark .stuck then .stuck
                    else if mark .recalibrated then .recalibrated else .released) 0
                changes := { c.changes with lifted := true }
                revision := (c.revision + 1) % 256 }
            else c
          zones := Table.write s.zones i (some { z with current := none }) })
      ∧ (¬ touched → z.current = none → z.pending = true →
        (∀ e, t.events.has e = (s.events.has e || decide (e = .zoneDropped)))
          ∧ t = { s with
            events := t.events
            zones := Table.write s.zones i
              (some { z with pending := false, dropped := true }) })
      ∧ (¬ touched → z.current = none → z.pending = false → t = s)

/-- The update of a current contact: strength and position follow the zone; MOVED is recorded exactly
when the distance from the reported position is not 0 and reaches the move threshold, and then the
reported position follows and the revision advances. On a BUTTON the strength alone follows. A new
record has no move recorded and its reported position equals its position (R59, R78). -/
def Obligations.ContactUpdateTestsTheMove : Prop :=
  ∀ (channels : Vector Channel 32) (z : Zone) (c : Contact),
    let d := contributions channels z
    (∀ id i, (newContact channels id i z).changes.moved = false
        ∧ ∀ p, (newContact channels id i z).travel = some p → p.reported = p.position)
      ∧ (z.kind = .button → updateByZone channels z c = { c with strength := strengthOf d })
      ∧ ∀ travel : Travel, z.kind ≠ .button → c.travel = some travel →
        ∃ p, zonePosition z.kind d (some travel.position) = some p
          ∧ (let size := max travel.reported p - min travel.reported p
            let distance := if z.kind = .wheel then min size (1024 - size) else size
            updateByZone channels z c =
              if distance ≠ 0 ∧ z.moveThreshold ≤ distance then
                { c with
                  strength := strengthOf d, travel := some { position := p, reported := p }
                  changes := { c.changes with moved := true }
                  revision := (c.revision + 1) % 256 }
              else
                { c with
                  strength := strengthOf d
                  travel := some { position := p, reported := travel.reported } })

/-- The id found for a new record, while fewer than ten records are live, is the first candidate that no
live record carries: every candidate from the next-id counter up to it, 255 followed by 1, is carried,
and it is not (R67). -/
def Obligations.FreeIdIsCarriedByNoRecord : Prop :=
  ∀ (cs : List Contact) (nextId : Nat), cs.length < 10 → 1 ≤ nextId → nextId ≤ 255 →
    (∀ c ∈ cs, c.id ≠ freeId cs nextId) ∧ 1 ≤ freeId cs nextId ∧ freeId cs nextId ≤ 255
      ∧ ∃ passed : Nat, freeId cs nextId = (nextId - 1 + passed) % 255 + 1
        ∧ ∀ k, k < passed → ∃ c ∈ cs, c.id = (nextId - 1 + k) % 255 + 1

/-- Ageing and expiry: the ages advance, saturating; then exactly the LIFTED records whose lift age has
reached a non-zero auto-retire leave the table, in order, and LIFT_EXPIRED is raised if one does (R75,
R76). -/
def Obligations.AgeingAndExpiry : Prop :=
  (∀ c : Contact, ageContact c =
      match c.state with
      | .down => { c with age := min 65535 (c.age + 1) }
      | .held => { c with age := min 65535 (c.age + 1) }
      | .lifted cause age => { c with state := .lifted cause (min 255 (age + 1)) })
    ∧ (∀ s : State, ageingStage s = { s with contacts := s.contacts.map ageContact })
    ∧ ∀ s : State, ∃ gone : Contact → Prop,
      (∀ c, gone c ↔ s.settings.autoRetire ≠ 0 ∧
          ∃ cause age, c.state = .lifted cause age ∧ s.settings.autoRetire ≤ age)
        ∧ (expiryStage s).contacts.Sublist s.contacts
        ∧ (∀ c, c ∈ (expiryStage s).contacts ↔ c ∈ s.contacts ∧ ¬ gone c)
        ∧ (∀ e, (expiryStage s).events.has e = true ↔
            s.events.has e = true ∨ (e = .liftExpired ∧ ∃ c ∈ s.contacts, gone c))
        ∧ expiryStage s = { s with contacts := (expiryStage s).contacts,
                                   events := (expiryStage s).events }

/-! ### Laws that every step keeps -/

/-- Every step keeps the law of ATTN (R106, R107). -/
def Obligations.StepKeepsAttnLaw : Prop :=
  ∀ s t : State, AttnLaw s → step s = .next t → AttnLaw t

/-- Every step keeps the laws of the settings and the channel records (R1, R3, R7, R18, R35, R178). -/
def Obligations.StepKeepsChannelTableLaw : Prop :=
  ∀ s t : State, ChannelTableLaw s → step s = .next t → ChannelTableLaw t

/-- Every step keeps the law of zone membership (R44, R45). -/
def Obligations.StepKeepsMembershipLaw : Prop :=
  ∀ s t : State, MembershipLaw s → step s = .next t → MembershipLaw t

/-- Every step keeps the law of the Contact Table (R66, R67, R70). -/
def Obligations.StepKeepsContactTableLaw : Prop :=
  ∀ s t : State, ContactTableLaw s → step s = .next t → ContactTableLaw t

/-- Every step keeps the tie between zones and their current contacts (R62, R71). -/
def Obligations.StepKeepsCurrentContactLaw : Prop :=
  ∀ s t : State, ContactTableLaw s → CurrentContactLaw s → step s = .next t → CurrentContactLaw t

/-- Every step keeps the laws of the converter, the arbiter, the pins, the rounds and the timers (R109,
R115, R118, R119, R124, R142, R148, R154, R160, R161). -/
def Obligations.StepKeepsScanningLaw : Prop :=
  ∀ s t : State, ScanningLaw s → step s = .next t → ScanningLaw t

/-! ### Laws over all commands -/

/-- Only the end of a conversion with a RUNNING round of kind ACTIVE, ACK CONTACTS, DELETE ZONE and the
resets change the Contact Table, and a reset that does leaves it empty (R73, R86, R92). That POWER_ON
leaves the table for the end of its reset, that the end of a requested reset empties it, and that
SUPPLY_FALL leaves it, are the model's choices, log entries 14 and 2. -/
def Obligations.OnlyTheseChangeContacts : Prop :=
  ∀ (c : Instr) (s t : State), exec c s = .next t → t.contacts ≠ s.contacts →
    (∃ pairs, c = .ackContacts pairs) ∨ (∃ index, c = .deleteZone index)
      ∨ (c = .resetFull ∧ t.contacts = []) ∨ (c = .resetScan ∧ t.contacts = [])
      ∨ (c = .rstnLow ∧ t.contacts = []) ∨ (∃ b, c = .rstnRise b ∧ t.contacts = [])
      ∨ (∃ b, c = .startUpComplete b ∧ t.contacts = [])
      ∨ (∃ b, c = .resetComplete b ∧ t.contacts = [])
      ∨ ∃ n r, c = .conversionComplete n ∧ s.scan.round = .running r ∧ r.kind = .active

/-- Only the end of a conversion with a RUNNING round advances the round counter, by one and from 65535
to 0, and that round has then ended: the round state is IDLE, or a new round has only started. Only a
reset sets the counter to 0 otherwise (R150). That POWER_ON leaves it for the end of its reset and
SUPPLY_FALL leaves it are the model's choices, log entries 14 and 2. -/
def Obligations.OnlyTheseChangeTheRoundCounter : Prop :=
  ∀ (c : Instr) (s t : State), exec c s = .next t →
    t.scan.counter = s.scan.counter
      ∨ (∃ n r, c = .conversionComplete n ∧ s.scan.round = .running r
          ∧ t.scan.counter = (s.scan.counter + 1) % 65536
          ∧ (t.scan.round = .idle
            ∨ ∃ k, t.scan.round = .running { kind := k, phase := .reference, last := none }))
      ∨ (t.scan.counter = 0 ∧ (c = .resetFull ∨ c = .resetScan ∨ c = .rstnLow
          ∨ (∃ b, c = .rstnRise b) ∨ ∃ b, c = .startUpComplete b))
end

