-- ==== Sys2Proof/Laws/Tables.lean ====
section
/-! SUPPORT. Reading a table after each way of writing one. -/

namespace Sys2Proof

variable {α : Type} {n : Nat}

/-- A write changes the record written and no other. -/
@[simp] theorem Table.read_write (t : Vector α n) (i j : Fin n) (a : α) :
    Table.read (Table.write t i a) j = if i = j then a else Table.read t j := by
  simp only [Table.read, Table.write, Fin.getElem_fin, Vector.getElem_set, Fin.ext_iff]

theorem Table.read_write_same (t : Vector α n) (i : Fin n) (a : α) :
    Table.read (Table.write t i a) i = a := by simp

theorem Table.read_write_other (t : Vector α n) {i j : Fin n} (h : i ≠ j) (a : α) :
    Table.read (Table.write t i a) j = Table.read t j := by simp [h]

/-- Each record of a mapped table comes from the record at the same index. -/
@[simp] theorem Table.read_mapAt (f : Fin n → α → α) (t : Vector α n) (i : Fin n) :
    Table.read (Table.mapAt f t) i = f i (Table.read t i) := by
  simp [Table.read, Table.mapAt]

@[simp] theorem Table.read_build (f : Fin n → α) (i : Fin n) :
    Table.read (Table.build f) i = f i := by
  simp [Table.read, Table.build]

@[simp] theorem Table.read_const (a : α) (i : Fin n) : Table.read (Table.const n a) i = a := by
  simp [Table.read, Table.const]

/-- Two tables with the same records are the same table. -/
theorem Table.ext_read {t u : Vector α n} (h : ∀ i, Table.read t i = Table.read u i) : t = u := by
  apply Vector.ext
  intro i hi
  exact h ⟨i, hi⟩

@[simp] theorem Table.write_read (t : Vector α n) (i : Fin n) :
    Table.write t i (Table.read t i) = t := by
  apply Table.ext_read
  intro j
  by_cases h : i = j <;> simp [h]

theorem Table.anyAt_eq_true {p : Fin n → α → Bool} {t : Vector α n} :
    Table.anyAt p t = true ↔ ∃ i, p i (Table.read t i) = true := by
  simp [Table.anyAt]

theorem Table.anyAt_eq_false {p : Fin n → α → Bool} {t : Vector α n} :
    Table.anyAt p t = false ↔ ∀ i, p i (Table.read t i) = false := by
  simp [Table.anyAt]

end Sys2Proof
end

