-- ==== Sys2Proof/Laws/State.lean ====
section
/-! SUPPORT. What each plain update of the state leaves in each field: one lemma for each field, so
that no later proof unfolds an update. -/

namespace Sys2Proof.Machine

variable (s : State)

/-! ### What a transaction shows is the record `bus` alone. -/

@[simp] theorem showBus_pending (v : BusView) :
    (showBus v s).pending = s.pending := rfl
@[simp] theorem showBus_power (v : BusView) : (showBus v s).power = s.power := rfl
@[simp] theorem showBus_rstnLow (v : BusView) :
    (showBus v s).rstnLow = s.rstnLow := rfl
@[simp] theorem showBus_hold (v : BusView) : (showBus v s).hold = s.hold := rfl
@[simp] theorem showBus_adselHigh (v : BusView) :
    (showBus v s).adselHigh = s.adselHigh := rfl
@[simp] theorem showBus_attn (v : BusView) : (showBus v s).attn = s.attn := rfl
@[simp] theorem showBus_port (v : BusView) : (showBus v s).port = s.port := rfl
@[simp] theorem showBus_bus (v : BusView) :
    (showBus v s).bus = v := rfl
@[simp] theorem showBus_settings (v : BusView) :
    (showBus v s).settings = s.settings := rfl
@[simp] theorem showBus_channels (v : BusView) :
    (showBus v s).channels = s.channels := rfl
@[simp] theorem showBus_zones (v : BusView) : (showBus v s).zones = s.zones := rfl
@[simp] theorem showBus_contacts (v : BusView) :
    (showBus v s).contacts = s.contacts := rfl
@[simp] theorem showBus_nextId (v : BusView) : (showBus v s).nextId = s.nextId := rfl
@[simp] theorem showBus_events (v : BusView) : (showBus v s).events = s.events := rfl
@[simp] theorem showBus_resetCause (v : BusView) :
    (showBus v s).resetCause = s.resetCause := rfl
@[simp] theorem showBus_reference (v : BusView) :
    (showBus v s).reference = s.reference := rfl
@[simp] theorem showBus_converter (v : BusView) :
    (showBus v s).converter = s.converter := rfl
@[simp] theorem showBus_scanClaim (v : BusView) :
    (showBus v s).scanClaim = s.scanClaim := rfl
@[simp] theorem showBus_slot (v : BusView) : (showBus v s).slot = s.slot := rfl
@[simp] theorem showBus_slotTimer (v : BusView) :
    (showBus v s).slotTimer = s.slotTimer := rfl
@[simp] theorem showBus_drive (v : BusView) : (showBus v s).drive = s.drive := rfl
@[simp] theorem showBus_scan (v : BusView) : (showBus v s).scan = s.scan := rfl
@[simp] theorem showBus_supplyFalls (v : BusView) :
    (showBus v s).supplyFalls = s.supplyFalls := rfl

/-! ### An answer writes the port alone. -/

@[simp] theorem answer_pending (r : Reply) : (answer r s).pending = s.pending := rfl
@[simp] theorem answer_power (r : Reply) : (answer r s).power = s.power := rfl
@[simp] theorem answer_rstnLow (r : Reply) : (answer r s).rstnLow = s.rstnLow := rfl
@[simp] theorem answer_hold (r : Reply) : (answer r s).hold = s.hold := rfl
@[simp] theorem answer_adselHigh (r : Reply) : (answer r s).adselHigh = s.adselHigh := rfl
@[simp] theorem answer_attn (r : Reply) : (answer r s).attn = s.attn := rfl
@[simp] theorem answer_port (r : Reply) :
    (answer r s).port =
      { s.port with reply := r, executing := false, frame := [], frameCount := 0 } := rfl
@[simp] theorem answer_bus (r : Reply) : (answer r s).bus = s.bus := rfl
@[simp] theorem answer_settings (r : Reply) : (answer r s).settings = s.settings := rfl
@[simp] theorem answer_channels (r : Reply) : (answer r s).channels = s.channels := rfl
@[simp] theorem answer_zones (r : Reply) : (answer r s).zones = s.zones := rfl
@[simp] theorem answer_contacts (r : Reply) : (answer r s).contacts = s.contacts := rfl
@[simp] theorem answer_nextId (r : Reply) : (answer r s).nextId = s.nextId := rfl
@[simp] theorem answer_events (r : Reply) : (answer r s).events = s.events := rfl
@[simp] theorem answer_resetCause (r : Reply) : (answer r s).resetCause = s.resetCause := rfl
@[simp] theorem answer_reference (r : Reply) : (answer r s).reference = s.reference := rfl
@[simp] theorem answer_converter (r : Reply) : (answer r s).converter = s.converter := rfl
@[simp] theorem answer_scanClaim (r : Reply) : (answer r s).scanClaim = s.scanClaim := rfl
@[simp] theorem answer_slot (r : Reply) : (answer r s).slot = s.slot := rfl
@[simp] theorem answer_slotTimer (r : Reply) : (answer r s).slotTimer = s.slotTimer := rfl
@[simp] theorem answer_drive (r : Reply) : (answer r s).drive = s.drive := rfl
@[simp] theorem answer_scan (r : Reply) : (answer r s).scan = s.scan := rfl
@[simp] theorem answer_supplyFalls (r : Reply) : (answer r s).supplyFalls = s.supplyFalls := rfl

/-! ### Raising an event writes the event set alone. -/

@[simp] theorem raise_pending (e : StatusEvent) : (raise e s).pending = s.pending := rfl
@[simp] theorem raise_power (e : StatusEvent) : (raise e s).power = s.power := rfl
@[simp] theorem raise_rstnLow (e : StatusEvent) : (raise e s).rstnLow = s.rstnLow := rfl
@[simp] theorem raise_hold (e : StatusEvent) : (raise e s).hold = s.hold := rfl
@[simp] theorem raise_adselHigh (e : StatusEvent) : (raise e s).adselHigh = s.adselHigh := rfl
@[simp] theorem raise_attn (e : StatusEvent) : (raise e s).attn = s.attn := rfl
@[simp] theorem raise_port (e : StatusEvent) : (raise e s).port = s.port := rfl
@[simp] theorem raise_bus (e : StatusEvent) : (raise e s).bus = s.bus := rfl
@[simp] theorem raise_settings (e : StatusEvent) : (raise e s).settings = s.settings := rfl
@[simp] theorem raise_channels (e : StatusEvent) : (raise e s).channels = s.channels := rfl
@[simp] theorem raise_zones (e : StatusEvent) : (raise e s).zones = s.zones := rfl
@[simp] theorem raise_contacts (e : StatusEvent) : (raise e s).contacts = s.contacts := rfl
@[simp] theorem raise_nextId (e : StatusEvent) : (raise e s).nextId = s.nextId := rfl
@[simp] theorem raise_events (e : StatusEvent) :
    (raise e s).events = s.events ||| EventSet.only e := rfl
@[simp] theorem raise_resetCause (e : StatusEvent) : (raise e s).resetCause = s.resetCause := rfl
@[simp] theorem raise_reference (e : StatusEvent) : (raise e s).reference = s.reference := rfl
@[simp] theorem raise_converter (e : StatusEvent) : (raise e s).converter = s.converter := rfl
@[simp] theorem raise_scanClaim (e : StatusEvent) : (raise e s).scanClaim = s.scanClaim := rfl
@[simp] theorem raise_slot (e : StatusEvent) : (raise e s).slot = s.slot := rfl
@[simp] theorem raise_slotTimer (e : StatusEvent) : (raise e s).slotTimer = s.slotTimer := rfl
@[simp] theorem raise_drive (e : StatusEvent) : (raise e s).drive = s.drive := rfl
@[simp] theorem raise_scan (e : StatusEvent) : (raise e s).scan = s.scan := rfl
@[simp] theorem raise_supplyFalls (e : StatusEvent) : (raise e s).supplyFalls = s.supplyFalls := rfl

/-! ### A zone record is written alone. -/

@[simp] theorem setZone_pending (i : Fin 16) (z : Zone) : (setZone i z s).pending = s.pending := rfl
@[simp] theorem setZone_power (i : Fin 16) (z : Zone) : (setZone i z s).power = s.power := rfl
@[simp] theorem setZone_rstnLow (i : Fin 16) (z : Zone) : (setZone i z s).rstnLow = s.rstnLow := rfl
@[simp] theorem setZone_hold (i : Fin 16) (z : Zone) : (setZone i z s).hold = s.hold := rfl
@[simp] theorem setZone_adselHigh (i : Fin 16) (z : Zone) :
    (setZone i z s).adselHigh = s.adselHigh := rfl
@[simp] theorem setZone_attn (i : Fin 16) (z : Zone) : (setZone i z s).attn = s.attn := rfl
@[simp] theorem setZone_port (i : Fin 16) (z : Zone) : (setZone i z s).port = s.port := rfl
@[simp] theorem setZone_bus (i : Fin 16) (z : Zone) : (setZone i z s).bus = s.bus := rfl
@[simp] theorem setZone_settings (i : Fin 16) (z : Zone) :
    (setZone i z s).settings = s.settings := rfl
@[simp] theorem setZone_channels (i : Fin 16) (z : Zone) :
    (setZone i z s).channels = s.channels := rfl
@[simp] theorem setZone_zones (i : Fin 16) (z : Zone) :
    (setZone i z s).zones = Table.write s.zones i (some z) := rfl
@[simp] theorem setZone_contacts (i : Fin 16) (z : Zone) :
    (setZone i z s).contacts = s.contacts := rfl
@[simp] theorem setZone_nextId (i : Fin 16) (z : Zone) : (setZone i z s).nextId = s.nextId := rfl
@[simp] theorem setZone_events (i : Fin 16) (z : Zone) : (setZone i z s).events = s.events := rfl
@[simp] theorem setZone_resetCause (i : Fin 16) (z : Zone) :
    (setZone i z s).resetCause = s.resetCause := rfl
@[simp] theorem setZone_reference (i : Fin 16) (z : Zone) :
    (setZone i z s).reference = s.reference := rfl
@[simp] theorem setZone_converter (i : Fin 16) (z : Zone) :
    (setZone i z s).converter = s.converter := rfl
@[simp] theorem setZone_scanClaim (i : Fin 16) (z : Zone) :
    (setZone i z s).scanClaim = s.scanClaim := rfl
@[simp] theorem setZone_slot (i : Fin 16) (z : Zone) : (setZone i z s).slot = s.slot := rfl
@[simp] theorem setZone_slotTimer (i : Fin 16) (z : Zone) :
    (setZone i z s).slotTimer = s.slotTimer := rfl
@[simp] theorem setZone_drive (i : Fin 16) (z : Zone) : (setZone i z s).drive = s.drive := rfl
@[simp] theorem setZone_scan (i : Fin 16) (z : Zone) : (setZone i z s).scan = s.scan := rfl
@[simp] theorem setZone_supplyFalls (i : Fin 16) (z : Zone) :
    (setZone i z s).supplyFalls = s.supplyFalls := rfl

/-! ### The start of the round timer. -/

@[simp] theorem startRoundTimer_pending : (startRoundTimer s).pending = s.pending := rfl
@[simp] theorem startRoundTimer_power : (startRoundTimer s).power = s.power := rfl
@[simp] theorem startRoundTimer_rstnLow : (startRoundTimer s).rstnLow = s.rstnLow := rfl
@[simp] theorem startRoundTimer_hold : (startRoundTimer s).hold = s.hold := rfl
@[simp] theorem startRoundTimer_adselHigh : (startRoundTimer s).adselHigh = s.adselHigh := rfl
@[simp] theorem startRoundTimer_attn : (startRoundTimer s).attn = s.attn := rfl
@[simp] theorem startRoundTimer_port : (startRoundTimer s).port = s.port := rfl
@[simp] theorem startRoundTimer_bus : (startRoundTimer s).bus = s.bus := rfl
@[simp] theorem startRoundTimer_settings : (startRoundTimer s).settings = s.settings := rfl
@[simp] theorem startRoundTimer_channels : (startRoundTimer s).channels = s.channels := rfl
@[simp] theorem startRoundTimer_zones : (startRoundTimer s).zones = s.zones := rfl
@[simp] theorem startRoundTimer_contacts : (startRoundTimer s).contacts = s.contacts := rfl
@[simp] theorem startRoundTimer_nextId : (startRoundTimer s).nextId = s.nextId := rfl
@[simp] theorem startRoundTimer_events : (startRoundTimer s).events = s.events := rfl
@[simp] theorem startRoundTimer_resetCause : (startRoundTimer s).resetCause = s.resetCause := rfl
@[simp] theorem startRoundTimer_reference : (startRoundTimer s).reference = s.reference := rfl
@[simp] theorem startRoundTimer_converter : (startRoundTimer s).converter = s.converter := rfl
@[simp] theorem startRoundTimer_scanClaim : (startRoundTimer s).scanClaim = s.scanClaim := rfl
@[simp] theorem startRoundTimer_slot : (startRoundTimer s).slot = s.slot := rfl
@[simp] theorem startRoundTimer_slotTimer : (startRoundTimer s).slotTimer = s.slotTimer := rfl
@[simp] theorem startRoundTimer_drive : (startRoundTimer s).drive = s.drive := rfl
@[simp] theorem startRoundTimer_scan :
    (startRoundTimer s).scan =
      { s.scan with roundTimer := .running s.settings.roundInterval } := rfl
@[simp] theorem startRoundTimer_supplyFalls : (startRoundTimer s).supplyFalls = s.supplyFalls := rfl

/-! ### The start of the watch timer. -/

@[simp] theorem startWatchTimer_pending : (startWatchTimer s).pending = s.pending := rfl
@[simp] theorem startWatchTimer_power : (startWatchTimer s).power = s.power := rfl
@[simp] theorem startWatchTimer_rstnLow : (startWatchTimer s).rstnLow = s.rstnLow := rfl
@[simp] theorem startWatchTimer_hold : (startWatchTimer s).hold = s.hold := rfl
@[simp] theorem startWatchTimer_adselHigh : (startWatchTimer s).adselHigh = s.adselHigh := rfl
@[simp] theorem startWatchTimer_attn : (startWatchTimer s).attn = s.attn := rfl
@[simp] theorem startWatchTimer_port : (startWatchTimer s).port = s.port := rfl
@[simp] theorem startWatchTimer_bus : (startWatchTimer s).bus = s.bus := rfl
@[simp] theorem startWatchTimer_settings : (startWatchTimer s).settings = s.settings := rfl
@[simp] theorem startWatchTimer_channels : (startWatchTimer s).channels = s.channels := rfl
@[simp] theorem startWatchTimer_zones : (startWatchTimer s).zones = s.zones := rfl
@[simp] theorem startWatchTimer_contacts : (startWatchTimer s).contacts = s.contacts := rfl
@[simp] theorem startWatchTimer_nextId : (startWatchTimer s).nextId = s.nextId := rfl
@[simp] theorem startWatchTimer_events : (startWatchTimer s).events = s.events := rfl
@[simp] theorem startWatchTimer_resetCause : (startWatchTimer s).resetCause = s.resetCause := rfl
@[simp] theorem startWatchTimer_reference : (startWatchTimer s).reference = s.reference := rfl
@[simp] theorem startWatchTimer_converter : (startWatchTimer s).converter = s.converter := rfl
@[simp] theorem startWatchTimer_scanClaim : (startWatchTimer s).scanClaim = s.scanClaim := rfl
@[simp] theorem startWatchTimer_slot : (startWatchTimer s).slot = s.slot := rfl
@[simp] theorem startWatchTimer_slotTimer : (startWatchTimer s).slotTimer = s.slotTimer := rfl
@[simp] theorem startWatchTimer_drive : (startWatchTimer s).drive = s.drive := rfl
@[simp] theorem startWatchTimer_scan :
    (startWatchTimer s).scan =
      { s.scan with watchTimer := .running (50 * s.settings.watchInterval) } := rfl
@[simp] theorem startWatchTimer_supplyFalls : (startWatchTimer s).supplyFalls = s.supplyFalls := rfl

/-! ### The start of a round. -/

@[simp] theorem startRound_pending (k : RoundKind) : (startRound k s).pending = s.pending := rfl
@[simp] theorem startRound_power (k : RoundKind) : (startRound k s).power = s.power := rfl
@[simp] theorem startRound_rstnLow (k : RoundKind) : (startRound k s).rstnLow = s.rstnLow := rfl
@[simp] theorem startRound_hold (k : RoundKind) : (startRound k s).hold = s.hold := rfl
@[simp] theorem startRound_adselHigh (k : RoundKind) :
    (startRound k s).adselHigh = s.adselHigh := rfl
@[simp] theorem startRound_attn (k : RoundKind) : (startRound k s).attn = s.attn := rfl
@[simp] theorem startRound_port (k : RoundKind) : (startRound k s).port = s.port := rfl
@[simp] theorem startRound_bus (k : RoundKind) : (startRound k s).bus = s.bus := rfl
@[simp] theorem startRound_settings (k : RoundKind) : (startRound k s).settings = s.settings := rfl
@[simp] theorem startRound_channels (k : RoundKind) : (startRound k s).channels = s.channels := rfl
@[simp] theorem startRound_zones (k : RoundKind) : (startRound k s).zones = s.zones := rfl
@[simp] theorem startRound_contacts (k : RoundKind) : (startRound k s).contacts = s.contacts := rfl
@[simp] theorem startRound_nextId (k : RoundKind) : (startRound k s).nextId = s.nextId := rfl
@[simp] theorem startRound_events (k : RoundKind) : (startRound k s).events = s.events := rfl
@[simp] theorem startRound_resetCause (k : RoundKind) :
    (startRound k s).resetCause = s.resetCause := rfl
@[simp] theorem startRound_reference (k : RoundKind) :
    (startRound k s).reference = s.reference := rfl
@[simp] theorem startRound_converter (k : RoundKind) :
    (startRound k s).converter = s.converter := rfl
@[simp] theorem startRound_scanClaim (k : RoundKind) : (startRound k s).scanClaim = some .ref := rfl
@[simp] theorem startRound_slot (k : RoundKind) : (startRound k s).slot = s.slot := rfl
@[simp] theorem startRound_slotTimer (k : RoundKind) :
    (startRound k s).slotTimer = s.slotTimer := rfl
@[simp] theorem startRound_drive (k : RoundKind) : (startRound k s).drive = s.drive := rfl
@[simp] theorem startRound_supplyFalls (k : RoundKind) :
    (startRound k s).supplyFalls = s.supplyFalls := rfl

/-! ### The dropping of the transaction in progress. -/

@[simp] theorem dropTransaction_pending : (dropTransaction s).pending = s.pending := rfl
@[simp] theorem dropTransaction_power : (dropTransaction s).power = s.power := rfl
@[simp] theorem dropTransaction_rstnLow : (dropTransaction s).rstnLow = s.rstnLow := rfl
@[simp] theorem dropTransaction_hold : (dropTransaction s).hold = s.hold := rfl
@[simp] theorem dropTransaction_adselHigh : (dropTransaction s).adselHigh = s.adselHigh := rfl
@[simp] theorem dropTransaction_attn : (dropTransaction s).attn = s.attn := rfl
@[simp] theorem dropTransaction_port :
    (dropTransaction s).port =
      { s.port with
        frame := [], frameCount := 0, executing := false, sdaLow := false,
        timeoutRunning := false } := rfl
@[simp] theorem dropTransaction_bus : (dropTransaction s).bus = s.bus := rfl
@[simp] theorem dropTransaction_settings : (dropTransaction s).settings = s.settings := rfl
@[simp] theorem dropTransaction_channels : (dropTransaction s).channels = s.channels := rfl
@[simp] theorem dropTransaction_zones : (dropTransaction s).zones = s.zones := rfl
@[simp] theorem dropTransaction_contacts : (dropTransaction s).contacts = s.contacts := rfl
@[simp] theorem dropTransaction_nextId : (dropTransaction s).nextId = s.nextId := rfl
@[simp] theorem dropTransaction_events : (dropTransaction s).events = s.events := rfl
@[simp] theorem dropTransaction_resetCause : (dropTransaction s).resetCause = s.resetCause := rfl
@[simp] theorem dropTransaction_reference : (dropTransaction s).reference = s.reference := rfl
@[simp] theorem dropTransaction_converter : (dropTransaction s).converter = s.converter := rfl
@[simp] theorem dropTransaction_scanClaim : (dropTransaction s).scanClaim = s.scanClaim := rfl
@[simp] theorem dropTransaction_slot : (dropTransaction s).slot = s.slot := rfl
@[simp] theorem dropTransaction_slotTimer : (dropTransaction s).slotTimer = s.slotTimer := rfl
@[simp] theorem dropTransaction_drive : (dropTransaction s).drive = s.drive := rfl
@[simp] theorem dropTransaction_scan : (dropTransaction s).scan = s.scan := rfl
@[simp] theorem dropTransaction_supplyFalls : (dropTransaction s).supplyFalls = s.supplyFalls := rfl

/-! ### The grant of a measurement. -/

@[simp] theorem grantHost_pending (x : Target) (l : Nat) :
    (grantHost x l s).pending = s.pending := rfl
@[simp] theorem grantHost_power (x : Target) (l : Nat) : (grantHost x l s).power = s.power := rfl
@[simp] theorem grantHost_rstnLow (x : Target) (l : Nat) :
    (grantHost x l s).rstnLow = s.rstnLow := rfl
@[simp] theorem grantHost_hold (x : Target) (l : Nat) : (grantHost x l s).hold = s.hold := rfl
@[simp] theorem grantHost_adselHigh (x : Target) (l : Nat) :
    (grantHost x l s).adselHigh = s.adselHigh := rfl
@[simp] theorem grantHost_attn (x : Target) (l : Nat) : (grantHost x l s).attn = s.attn := rfl
@[simp] theorem grantHost_port (x : Target) (l : Nat) : (grantHost x l s).port = s.port := rfl
@[simp] theorem grantHost_bus (x : Target) (l : Nat) : (grantHost x l s).bus = s.bus := rfl
@[simp] theorem grantHost_settings (x : Target) (l : Nat) :
    (grantHost x l s).settings = s.settings := rfl
@[simp] theorem grantHost_channels (x : Target) (l : Nat) :
    (grantHost x l s).channels = s.channels := rfl
@[simp] theorem grantHost_zones (x : Target) (l : Nat) : (grantHost x l s).zones = s.zones := rfl
@[simp] theorem grantHost_contacts (x : Target) (l : Nat) :
    (grantHost x l s).contacts = s.contacts := rfl
@[simp] theorem grantHost_nextId (x : Target) (l : Nat) : (grantHost x l s).nextId = s.nextId := rfl
@[simp] theorem grantHost_events (x : Target) (l : Nat) : (grantHost x l s).events = s.events := rfl
@[simp] theorem grantHost_resetCause (x : Target) (l : Nat) :
    (grantHost x l s).resetCause = s.resetCause := rfl
@[simp] theorem grantHost_reference (x : Target) (l : Nat) :
    (grantHost x l s).reference = s.reference := rfl
@[simp] theorem grantHost_scanClaim (x : Target) (l : Nat) :
    (grantHost x l s).scanClaim = s.scanClaim := rfl
@[simp] theorem grantHost_slot (x : Target) (l : Nat) :
    (grantHost x l s).slot = .converting x l := rfl
@[simp] theorem grantHost_slotTimer (x : Target) (l : Nat) :
    (grantHost x l s).slotTimer = s.slotTimer := rfl
@[simp] theorem grantHost_drive (x : Target) (l : Nat) :
    (grantHost x l s).drive = pinsFor x s := rfl
@[simp] theorem grantHost_scan (x : Target) (l : Nat) : (grantHost x l s).scan = s.scan := rfl
@[simp] theorem grantHost_supplyFalls (x : Target) (l : Nat) :
    (grantHost x l s).supplyFalls = s.supplyFalls := rfl

/-! ### The grant of a claim of the Scan Controller. -/

@[simp] theorem grantScan_pending (x : Target) : (grantScan x s).pending = s.pending := rfl
@[simp] theorem grantScan_power (x : Target) : (grantScan x s).power = s.power := rfl
@[simp] theorem grantScan_rstnLow (x : Target) : (grantScan x s).rstnLow = s.rstnLow := rfl
@[simp] theorem grantScan_hold (x : Target) : (grantScan x s).hold = s.hold := rfl
@[simp] theorem grantScan_adselHigh (x : Target) : (grantScan x s).adselHigh = s.adselHigh := rfl
@[simp] theorem grantScan_attn (x : Target) : (grantScan x s).attn = s.attn := rfl
@[simp] theorem grantScan_port (x : Target) : (grantScan x s).port = s.port := rfl
@[simp] theorem grantScan_bus (x : Target) : (grantScan x s).bus = s.bus := rfl
@[simp] theorem grantScan_settings (x : Target) : (grantScan x s).settings = s.settings := rfl
@[simp] theorem grantScan_channels (x : Target) : (grantScan x s).channels = s.channels := rfl
@[simp] theorem grantScan_zones (x : Target) : (grantScan x s).zones = s.zones := rfl
@[simp] theorem grantScan_contacts (x : Target) : (grantScan x s).contacts = s.contacts := rfl
@[simp] theorem grantScan_nextId (x : Target) : (grantScan x s).nextId = s.nextId := rfl
@[simp] theorem grantScan_events (x : Target) : (grantScan x s).events = s.events := rfl
@[simp] theorem grantScan_resetCause (x : Target) : (grantScan x s).resetCause = s.resetCause := rfl
@[simp] theorem grantScan_reference (x : Target) : (grantScan x s).reference = s.reference := rfl
@[simp] theorem grantScan_scanClaim (x : Target) : (grantScan x s).scanClaim = none := rfl
@[simp] theorem grantScan_slot (x : Target) : (grantScan x s).slot = s.slot := rfl
@[simp] theorem grantScan_slotTimer (x : Target) : (grantScan x s).slotTimer = s.slotTimer := rfl
@[simp] theorem grantScan_drive (x : Target) : (grantScan x s).drive = pinsFor x s := rfl
@[simp] theorem grantScan_scan (x : Target) : (grantScan x s).scan = s.scan := rfl
@[simp] theorem grantScan_supplyFalls (x : Target) :
    (grantScan x s).supplyFalls = s.supplyFalls := rfl

/-! ### The converter gone IDLE. -/

@[simp] theorem releaseConverter_pending : (releaseConverter s).pending = s.pending := rfl
@[simp] theorem releaseConverter_power : (releaseConverter s).power = s.power := rfl
@[simp] theorem releaseConverter_rstnLow : (releaseConverter s).rstnLow = s.rstnLow := rfl
@[simp] theorem releaseConverter_hold : (releaseConverter s).hold = s.hold := rfl
@[simp] theorem releaseConverter_adselHigh : (releaseConverter s).adselHigh = s.adselHigh := rfl
@[simp] theorem releaseConverter_attn : (releaseConverter s).attn = s.attn := rfl
@[simp] theorem releaseConverter_port : (releaseConverter s).port = s.port := rfl
@[simp] theorem releaseConverter_bus : (releaseConverter s).bus = s.bus := rfl
@[simp] theorem releaseConverter_settings : (releaseConverter s).settings = s.settings := rfl
@[simp] theorem releaseConverter_channels : (releaseConverter s).channels = s.channels := rfl
@[simp] theorem releaseConverter_zones : (releaseConverter s).zones = s.zones := rfl
@[simp] theorem releaseConverter_contacts : (releaseConverter s).contacts = s.contacts := rfl
@[simp] theorem releaseConverter_nextId : (releaseConverter s).nextId = s.nextId := rfl
@[simp] theorem releaseConverter_events : (releaseConverter s).events = s.events := rfl
@[simp] theorem releaseConverter_resetCause : (releaseConverter s).resetCause = s.resetCause := rfl
@[simp] theorem releaseConverter_reference : (releaseConverter s).reference = s.reference := rfl
@[simp] theorem releaseConverter_converter : (releaseConverter s).converter = none := rfl
@[simp] theorem releaseConverter_scanClaim : (releaseConverter s).scanClaim = s.scanClaim := rfl
@[simp] theorem releaseConverter_slot : (releaseConverter s).slot = s.slot := rfl
@[simp] theorem releaseConverter_slotTimer : (releaseConverter s).slotTimer = s.slotTimer := rfl
@[simp] theorem releaseConverter_drive : (releaseConverter s).drive = idlePins s.channels := rfl
@[simp] theorem releaseConverter_scan : (releaseConverter s).scan = s.scan := rfl
@[simp] theorem releaseConverter_supplyFalls :
    (releaseConverter s).supplyFalls = s.supplyFalls := rfl

/-! ### A claim posted again. -/

@[simp] theorem claimAgain_pending (x : Target) : (claimAgain x s).pending = s.pending := rfl
@[simp] theorem claimAgain_power (x : Target) : (claimAgain x s).power = s.power := rfl
@[simp] theorem claimAgain_rstnLow (x : Target) : (claimAgain x s).rstnLow = s.rstnLow := rfl
@[simp] theorem claimAgain_hold (x : Target) : (claimAgain x s).hold = s.hold := rfl
@[simp] theorem claimAgain_adselHigh (x : Target) : (claimAgain x s).adselHigh = s.adselHigh := rfl
@[simp] theorem claimAgain_attn (x : Target) : (claimAgain x s).attn = s.attn := rfl
@[simp] theorem claimAgain_port (x : Target) : (claimAgain x s).port = s.port := rfl
@[simp] theorem claimAgain_bus (x : Target) : (claimAgain x s).bus = s.bus := rfl
@[simp] theorem claimAgain_settings (x : Target) : (claimAgain x s).settings = s.settings := rfl
@[simp] theorem claimAgain_channels (x : Target) : (claimAgain x s).channels = s.channels := rfl
@[simp] theorem claimAgain_zones (x : Target) : (claimAgain x s).zones = s.zones := rfl
@[simp] theorem claimAgain_contacts (x : Target) : (claimAgain x s).contacts = s.contacts := rfl
@[simp] theorem claimAgain_nextId (x : Target) : (claimAgain x s).nextId = s.nextId := rfl
@[simp] theorem claimAgain_events (x : Target) : (claimAgain x s).events = s.events := rfl
@[simp] theorem claimAgain_resetCause (x : Target) :
    (claimAgain x s).resetCause = s.resetCause := rfl
@[simp] theorem claimAgain_reference (x : Target) : (claimAgain x s).reference = s.reference := rfl
@[simp] theorem claimAgain_converter (x : Target) : (claimAgain x s).converter = s.converter := rfl
@[simp] theorem claimAgain_scanClaim (x : Target) : (claimAgain x s).scanClaim = some x := rfl
@[simp] theorem claimAgain_slot (x : Target) : (claimAgain x s).slot = s.slot := rfl
@[simp] theorem claimAgain_slotTimer (x : Target) : (claimAgain x s).slotTimer = s.slotTimer := rfl
@[simp] theorem claimAgain_drive (x : Target) : (claimAgain x s).drive = s.drive := rfl
@[simp] theorem claimAgain_scan (x : Target) : (claimAgain x s).scan = s.scan := rfl
@[simp] theorem claimAgain_supplyFalls (x : Target) :
    (claimAgain x s).supplyFalls = s.supplyFalls := rfl

/-! ### The mark-clearing stage. -/

@[simp] theorem markClearing_pending : (markClearing s).pending = s.pending := by
  simp only [markClearing]
@[simp] theorem markClearing_power : (markClearing s).power = s.power := by
  simp only [markClearing]
@[simp] theorem markClearing_rstnLow : (markClearing s).rstnLow = s.rstnLow := by
  simp only [markClearing]
@[simp] theorem markClearing_hold : (markClearing s).hold = s.hold := by
  simp only [markClearing]
@[simp] theorem markClearing_adselHigh : (markClearing s).adselHigh = s.adselHigh := by
  simp only [markClearing]
@[simp] theorem markClearing_attn : (markClearing s).attn = s.attn := by
  simp only [markClearing]
@[simp] theorem markClearing_port : (markClearing s).port = s.port := by
  simp only [markClearing]
@[simp] theorem markClearing_bus : (markClearing s).bus = s.bus := by
  simp only [markClearing]
@[simp] theorem markClearing_settings : (markClearing s).settings = s.settings := by
  simp only [markClearing]
@[simp] theorem markClearing_channels :
    (markClearing s).channels = Table.mapAt (fun _ c => clearMark c) s.channels := by
  simp only [markClearing]
@[simp] theorem markClearing_zones : (markClearing s).zones = s.zones := by
  simp only [markClearing]
@[simp] theorem markClearing_contacts : (markClearing s).contacts = s.contacts := by
  simp only [markClearing]
@[simp] theorem markClearing_nextId : (markClearing s).nextId = s.nextId := by
  simp only [markClearing]
@[simp] theorem markClearing_events : (markClearing s).events = s.events := by
  simp only [markClearing]
@[simp] theorem markClearing_resetCause : (markClearing s).resetCause = s.resetCause := by
  simp only [markClearing]
@[simp] theorem markClearing_reference : (markClearing s).reference = s.reference := by
  simp only [markClearing]
@[simp] theorem markClearing_converter : (markClearing s).converter = s.converter := by
  simp only [markClearing]
@[simp] theorem markClearing_scanClaim : (markClearing s).scanClaim = s.scanClaim := by
  simp only [markClearing]
@[simp] theorem markClearing_slot : (markClearing s).slot = s.slot := by
  simp only [markClearing]
@[simp] theorem markClearing_slotTimer : (markClearing s).slotTimer = s.slotTimer := by
  simp only [markClearing]
@[simp] theorem markClearing_drive : (markClearing s).drive = s.drive := by
  simp only [markClearing]
@[simp] theorem markClearing_scan : (markClearing s).scan = s.scan := by
  simp only [markClearing]
@[simp] theorem markClearing_supplyFalls : (markClearing s).supplyFalls = s.supplyFalls := by
  simp only [markClearing]

/-! ### The ageing stage. -/

@[simp] theorem ageingStage_pending : (ageingStage s).pending = s.pending := rfl
@[simp] theorem ageingStage_power : (ageingStage s).power = s.power := rfl
@[simp] theorem ageingStage_rstnLow : (ageingStage s).rstnLow = s.rstnLow := rfl
@[simp] theorem ageingStage_hold : (ageingStage s).hold = s.hold := rfl
@[simp] theorem ageingStage_adselHigh : (ageingStage s).adselHigh = s.adselHigh := rfl
@[simp] theorem ageingStage_attn : (ageingStage s).attn = s.attn := rfl
@[simp] theorem ageingStage_port : (ageingStage s).port = s.port := rfl
@[simp] theorem ageingStage_bus : (ageingStage s).bus = s.bus := rfl
@[simp] theorem ageingStage_settings : (ageingStage s).settings = s.settings := rfl
@[simp] theorem ageingStage_channels : (ageingStage s).channels = s.channels := rfl
@[simp] theorem ageingStage_zones : (ageingStage s).zones = s.zones := rfl
@[simp] theorem ageingStage_contacts : (ageingStage s).contacts = s.contacts.map ageContact := rfl
@[simp] theorem ageingStage_nextId : (ageingStage s).nextId = s.nextId := rfl
@[simp] theorem ageingStage_events : (ageingStage s).events = s.events := rfl
@[simp] theorem ageingStage_resetCause : (ageingStage s).resetCause = s.resetCause := rfl
@[simp] theorem ageingStage_reference : (ageingStage s).reference = s.reference := rfl
@[simp] theorem ageingStage_converter : (ageingStage s).converter = s.converter := rfl
@[simp] theorem ageingStage_scanClaim : (ageingStage s).scanClaim = s.scanClaim := rfl
@[simp] theorem ageingStage_slot : (ageingStage s).slot = s.slot := rfl
@[simp] theorem ageingStage_slotTimer : (ageingStage s).slotTimer = s.slotTimer := rfl
@[simp] theorem ageingStage_drive : (ageingStage s).drive = s.drive := rfl
@[simp] theorem ageingStage_scan : (ageingStage s).scan = s.scan := rfl
@[simp] theorem ageingStage_supplyFalls : (ageingStage s).supplyFalls = s.supplyFalls := rfl

end Sys2Proof.Machine
end

