-- ==== Sys2Proof/Laws/Ops.lean ====
section
/-! SUPPORT. Status events, ATTN and events at the blocks: what each shared operation can do. -/

namespace Sys2Proof.Machine

/-! ### Status events -/

/-- The set of one event holds that event and no other. -/
@[simp] theorem has_only (e f : StatusEvent) : (EventSet.only e).has f = decide (f = e) := by
  cases e <;> cases f <;> rfl

@[simp] theorem has_or (a b : EventSet) (e : StatusEvent) :
    EventSet.has (a ||| b) e = (a.has e || b.has e) := by simp [EventSet.has]

@[simp] theorem has_and (a b : EventSet) (e : StatusEvent) :
    EventSet.has (a &&& b) e = (a.has e && b.has e) := by simp [EventSet.has]

/-- An event is present after a raise if it was or is the one raised (R100). -/
theorem has_raise (e f : StatusEvent) (s : State) :
    (raise e s).events.has f = (s.events.has f || decide (f = e)) := by simp

@[simp] theorem raiseIfAny_none (s : State) : raiseIfAny none s = s := rfl

@[simp] theorem raiseIfAny_some (e : StatusEvent) (s : State) :
    raiseIfAny (some e) s = raise e s := rfl

/-- Raising the event of a sample, if any, writes the event set alone. -/
theorem raiseIfAny_eq (o : Option StatusEvent) (s : State) :
    raiseIfAny o s = { s with events := (raiseIfAny o s).events } := by cases o <;> rfl

theorem has_raiseIfAny (o : Option StatusEvent) (f : StatusEvent) (s : State) :
    (raiseIfAny o s).events.has f = (s.events.has f || decide (o = some f)) := by
  cases o with
  | none => simp
  | some e => simp [eq_comm]

theorem position_lt (e : StatusEvent) : e.position < 11 := by cases e <;> decide

/-- Every position of a mask below eleven names an event (R186). -/
theorem exists_position (n : Nat) (h : n < 11) : ∃ e : StatusEvent, e.position = n := by
  have : ∀ n : Fin 11, ∃ e : StatusEvent, e.position = n.val := by
    intro n
    match n with
    | ⟨0, _⟩ => exact ⟨.resetDone, rfl⟩
    | ⟨1, _⟩ => exact ⟨.woken, rfl⟩
    | ⟨2, _⟩ => exact ⟨.channelFault, rfl⟩
    | ⟨3, _⟩ => exact ⟨.rebaselined, rfl⟩
    | ⟨4, _⟩ => exact ⟨.referenceRecaptured, rfl⟩
    | ⟨5, _⟩ => exact ⟨.referenceFault, rfl⟩
    | ⟨6, _⟩ => exact ⟨.zoneDropped, rfl⟩
    | ⟨7, _⟩ => exact ⟨.liftExpired, rfl⟩
    | ⟨8, _⟩ => exact ⟨.holdTimeout, rfl⟩
    | ⟨9, _⟩ => exact ⟨.roundOverrun, rfl⟩
    | ⟨10, _⟩ => exact ⟨.measureDone, rfl⟩
  exact this ⟨n, h⟩

/-- A set is empty when it holds no event. -/
theorem eventSet_eq_zero {a : EventSet} : a = 0#11 ↔ ∀ e : StatusEvent, a.has e = false := by
  constructor
  · rintro rfl e
    simp [EventSet.has]
  · intro h
    apply BitVec.eq_of_getLsbD_eq
    intro i hi
    obtain ⟨e, rfl⟩ := exists_position i hi
    have he := h e
    unfold EventSet.has at he
    simp [he]

/-! ### ATTN -/

/-- A change set holds a change (R87). -/
theorem isEmpty_eq_false {c : ChangeSet} :
    c.isEmpty = false ↔ c.appeared = true ∨ c.moved = true ∨ c.lifted = true := by
  obtain ⟨_ | _, _ | _, _ | _⟩ := c <;> simp [ChangeSet.isEmpty]

/-- ATTN's condition in the words of R106. -/
theorem attnWanted_iff (s : State) : attnWanted s = true ↔ AttnDue s := by
  have hne : (s.events &&& s.settings.attentionMask ≠ 0#11) ↔
      ∃ e : StatusEvent, s.events.has e = true ∧ s.settings.attentionMask.has e = true := by
    rw [ne_eq, eventSet_eq_zero, not_forall]
    simp
  simp [attnWanted, AttnDue, ← hne, isEmpty_eq_false]

/-- ATTN's condition rests on the contacts, the events and the settings alone. -/
theorem attnWanted_congr {s t : State} (hc : s.contacts = t.contacts) (he : s.events = t.events)
    (hs : s.settings = t.settings) : attnWanted s = attnWanted t := by
  simp [attnWanted, hc, he, hs]

/-- The judgement of ATTN writes ATTN alone. -/
theorem judgeAttn_eq (s : State) : judgeAttn s = { s with attn := (judgeAttn s).attn } := by
  unfold judgeAttn
  split <;> rfl

theorem judgeAttn_running {s : State} (h : s.power = .running) :
    judgeAttn s = { s with attn := attnWanted s } := by simp [judgeAttn, h]

@[simp] theorem judgeAttn_fields (s : State) :
    (judgeAttn s).pending = s.pending ∧ (judgeAttn s).power = s.power
      ∧ (judgeAttn s).rstnLow = s.rstnLow ∧ (judgeAttn s).hold = s.hold
      ∧ (judgeAttn s).adselHigh = s.adselHigh ∧ (judgeAttn s).port = s.port
      ∧ (judgeAttn s).bus = s.bus ∧ (judgeAttn s).settings = s.settings
      ∧ (judgeAttn s).channels = s.channels ∧ (judgeAttn s).zones = s.zones
      ∧ (judgeAttn s).contacts = s.contacts ∧ (judgeAttn s).nextId = s.nextId
      ∧ (judgeAttn s).events = s.events ∧ (judgeAttn s).resetCause = s.resetCause
      ∧ (judgeAttn s).reference = s.reference ∧ (judgeAttn s).converter = s.converter
      ∧ (judgeAttn s).scanClaim = s.scanClaim ∧ (judgeAttn s).slot = s.slot
      ∧ (judgeAttn s).slotTimer = s.slotTimer ∧ (judgeAttn s).drive = s.drive
      ∧ (judgeAttn s).scan = s.scan ∧ (judgeAttn s).supplyFalls = s.supplyFalls := by
  rw [judgeAttn_eq]
  simp

/-- After the judgement ATTN obeys its law (R106, R107). -/
theorem judgeAttn_attnLaw (s : State) : AttnLaw (judgeAttn s) := by
  cases h : s.power <;> simp only [AttnLaw, judgeAttn, h]
  exact attnWanted_iff s

/-! ### Events at the blocks -/

theorem blocksRun_running {s : State} (h : s.power = .running) : blocksRun s = true := by
  simp [blocksRun, h]

theorem blocksRun_congr {s t : State} (h : s.power = t.power) : blocksRun s = blocksRun t := by
  simp [blocksRun, h]

theorem blockEvent_run {f : State → State} {s : State} (h : blocksRun s = true) :
    blockEvent f s = judgeAttn (f s) := by simp [blockEvent, h]

theorem blockEvent_idle {f : State → State} {s : State} (h : blocksRun s = false) :
    blockEvent f s = s := by simp [blockEvent, h]

/-! ### The pins between conversions -/

@[simp] theorem read_idlePins (channels : Vector Channel 32) (i : Fin 32) :
    Table.read (idlePins channels) i = idleDriveOf (Table.read channels i).config.role := by
  simp [idlePins]

/-- The pins between conversions rest on the roles alone. -/
theorem idlePins_congr {a b : Vector Channel 32}
    (h : ∀ i, (Table.read a i).config.role = (Table.read b i).config.role) :
    idlePins a = idlePins b := by
  apply Table.ext_read
  intro i
  simp [h]

end Sys2Proof.Machine
end

