-- ==== Sys2Proof/Laws/Arbiter.lean ====
section
/-! SUPPORT. The arbiter and the reference and sample operations: what each can do. -/

namespace Sys2Proof.Machine

/-! ### The arbiter (R118) -/

/-- All that the arbiter can do. -/
theorem grant_cases (s : State) :
    ((s.converter.isSome = true ∨ s.hold = true) ∧ grant s = s)
      ∨ (s.converter = none ∧ s.hold = false ∧
          ((∃ target level, s.slot = .queued target level ∧ grant s = grantHost target level s)
            ∨ ((∀ target level, s.slot ≠ .queued target level) ∧
              ((∃ target, s.scanClaim = some target ∧ grant s = grantScan target s)
                ∨ (s.scanClaim = none ∧ grant s = s))))) := by
  by_cases h : s.converter.isSome = true ∨ s.hold = true
  · exact .inl ⟨h, by simp [grant, h]⟩
  · have h1 : s.converter = none := by
      cases hc : s.converter with
      | none => rfl
      | some cv => simp [hc] at h
    have h2 : s.hold = false := by simpa using fun hh => h (.inr hh)
    refine .inr ⟨h1, h2, ?_⟩
    cases hs : s.slot with
    | queued t l => exact .inl ⟨t, l, rfl, by simp [grant, h1, h2, hs]⟩
    | _ =>
      refine .inr ⟨by simp, ?_⟩
      cases hc : s.scanClaim with
      | none => exact .inr ⟨rfl, by simp [grant, h1, h2, hs, hc]⟩
      | some t => exact .inl ⟨t, rfl, by simp [grant, h1, h2, hs, hc]⟩

/-- A conversion in flight or HOLD keeps the arbiter from granting (R118). -/
theorem grant_blocked {s : State} (h : s.converter ≠ none ∨ s.hold = true) : grant s = s := by
  obtain ⟨_, h1⟩ | ⟨h1, h2, _⟩ := grant_cases s
  · exact h1
  · simp [h1, h2] at h

/-- No measurement waits for the converter. -/
def NoHostClaim (s : State) : Prop := ∀ target level, s.slot ≠ .queued target level

/-- The host's claim goes first (R118). -/
theorem grant_host {s : State} {target : Target} {level : Nat} (hc : s.converter = none)
    (hh : s.hold = false) (hs : s.slot = .queued target level) :
    grant s = grantHost target level s := by simp [grant, hc, hh, hs]

/-- The Scan Controller's claim is granted when no measurement waits (R118). -/
theorem grant_scan {s : State} {target : Target} (hc : s.converter = none) (hh : s.hold = false)
    (hs : NoHostClaim s) (ht : s.scanClaim = some target) : grant s = grantScan target s := by
  obtain ⟨h, _⟩ | ⟨_, _, ⟨t, l, h, _⟩ | ⟨_, ⟨t, h, e⟩ | ⟨h, _⟩⟩⟩ := grant_cases s
  · simp [hc, hh] at h
  · exact absurd h (hs t l)
  · rw [e, Option.some.inj (ht.symm.trans h)]
  · simp [ht] at h

/-- Without a claim there is no grant (R118). -/
theorem grant_none {s : State} (hs : NoHostClaim s) (ht : s.scanClaim = none) : grant s = s := by
  obtain ⟨_, h⟩ | ⟨_, _, ⟨t, l, h, _⟩ | ⟨_, ⟨t, h, _⟩ | ⟨_, h⟩⟩⟩ := grant_cases s
  · exact h
  · exact absurd h (hs t l)
  · simp [ht] at h
  · exact h

/-- A slot that does not wait is not touched by a grant. -/
theorem grant_slot {s : State} (hs : NoHostClaim s) : (grant s).slot = s.slot := by
  obtain ⟨_, h⟩ | ⟨_, _, ⟨t, l, h, _⟩ | ⟨_, ⟨t, _, h⟩ | ⟨_, h⟩⟩⟩ := grant_cases s
  · rw [h]
  · exact absurd h (hs t l)
  · simp [h]
  · rw [h]

/-- The fields a grant leaves as they are. -/
@[simp] theorem grant_fields (s : State) :
    (grant s).pending = s.pending ∧ (grant s).power = s.power ∧ (grant s).rstnLow = s.rstnLow
      ∧ (grant s).hold = s.hold ∧ (grant s).adselHigh = s.adselHigh ∧ (grant s).attn = s.attn
      ∧ (grant s).port = s.port ∧ (grant s).bus = s.bus ∧ (grant s).settings = s.settings
      ∧ (grant s).channels = s.channels ∧ (grant s).zones = s.zones
      ∧ (grant s).contacts = s.contacts ∧ (grant s).nextId = s.nextId
      ∧ (grant s).events = s.events ∧ (grant s).resetCause = s.resetCause
      ∧ (grant s).reference = s.reference ∧ (grant s).slotTimer = s.slotTimer
      ∧ (grant s).scan = s.scan ∧ (grant s).supplyFalls = s.supplyFalls := by
  obtain ⟨_, h⟩ | ⟨_, _, ⟨t, l, _, h⟩ | ⟨_, ⟨t, _, h⟩ | ⟨_, h⟩⟩⟩ := grant_cases s <;>
    simp [h]

/-! ### The drive of the pins (R114, R115) -/

/-- The drive between conversions is the one R115 gives each role. -/
theorem restingPins_idlePins (s : State) : RestingPins s (idlePins s.channels) := fun p => by
  cases h : (Table.read s.channels p).config.role <;> simp [h, idleDriveOf]

/-- A conversion's drive is the one R114 and R115 give each role. -/
theorem pinsFor_spec (x : Target) (s : State) : PinsFor x s (pinsFor x s) := by
  cases x with
  | ref => exact restingPins_idlePins s
  | channel j =>
    intro p
    by_cases hp : p = j
    · simp [pinsFor, sensingDrive, hp]
    · cases h : (Table.read s.channels p).config.role <;>
        cases hd : s.settings.idleSenseDrive <;> simp [pinsFor, sensingDrive, hp, h, hd]

/-- One drive alone is the one between conversions. -/
theorem restingPins_iff {s : State} {drive : Vector PinDrive 32} :
    RestingPins s drive ↔ drive = idlePins s.channels := by
  refine ⟨fun h => Table.ext_read fun p => ?_, fun h => h ▸ restingPins_idlePins s⟩
  rw [h p, restingPins_idlePins s p]

/-! ### The grant in the words of R118 -/

theorem grantScan_eq (x : Target) (s : State) :
    grantScan x s = { s with
      scanClaim := none, converter := some (scanConversion x s), drive := pinsFor x s } := by
  cases x with
  | ref => rfl
  | channel j =>
    have e : roleLostAtGrant (.channel j) s =
        decide ((Table.read s.channels j).config.role ≠ .sense) := by
      cases h : (Table.read s.channels j).config.role <;> simp [roleLostAtGrant, h]
    simp only [grantScan, scanConversion, channelConversion, scanLevel, conversionTime, e]

/-- What the arbiter leaves is what R118 says. -/
theorem grantedFrom_grant (u : State) : GrantedFrom u (grant u) := by
  unfold GrantedFrom
  split
  · rename_i h
    split
    · rename_i hs
      exact ⟨_, pinsFor_spec _ u, grant_host h.1 h.2 hs⟩
    · rename_i hc hs
      exact ⟨_, pinsFor_spec _ u, (grant_scan h.1 h.2 (fun t l => hs t l) hc).trans (grantScan_eq _ u)⟩
    · rename_i hc hs
      exact grant_none (fun t l => hs t l) hc
  · rename_i h
    refine grant_blocked ?_
    cases hh : u.hold
    · exact .inl fun hc => h ⟨hc, hh⟩
    · exact .inr rfl

/-! ### Reference samples and channel samples (R12, R131) -/

/-- A reference sample writes the Reference Unit and the event set alone (R131). -/
theorem applyReference_eq (raw : Nat) (s : State) :
    applyReference raw s =
      { s with
        reference := (judgeReference s.settings raw s.reference).reference
        events := (applyReference raw s).events } := by
  rw [applyReference, raiseIfAny_eq]

@[simp] theorem applyReference_fields (raw : Nat) (s : State) :
    (applyReference raw s).pending = s.pending ∧ (applyReference raw s).power = s.power
      ∧ (applyReference raw s).hold = s.hold ∧ (applyReference raw s).port = s.port
      ∧ (applyReference raw s).settings = s.settings
      ∧ (applyReference raw s).channels = s.channels ∧ (applyReference raw s).zones = s.zones
      ∧ (applyReference raw s).contacts = s.contacts ∧ (applyReference raw s).nextId = s.nextId
      ∧ (applyReference raw s).reference = (judgeReference s.settings raw s.reference).reference
      ∧ (applyReference raw s).converter = s.converter
      ∧ (applyReference raw s).scanClaim = s.scanClaim ∧ (applyReference raw s).slot = s.slot
      ∧ (applyReference raw s).slotTimer = s.slotTimer ∧ (applyReference raw s).drive = s.drive
      ∧ (applyReference raw s).scan = s.scan := by
  rw [applyReference_eq]
  simp

theorem has_applyReference (raw : Nat) (s : State) (e : StatusEvent) :
    (applyReference raw s).events.has e =
      (s.events.has e || decide ((judgeReference s.settings raw s.reference).raised = some e)) := by
  rw [applyReference, has_raiseIfAny]

/-- The dynamic fields that a sample event leaves on channel `i`. -/
abbrev sampledChannel (i : Fin 32) (raw : Nat) (s : State) : Channel :=
  { Table.read s.channels i with
    dyn := (sampleEvent s.settings s.reference.offset raw (Table.read s.channels i)).dyn }

/-- A channel sample writes one channel record and the event set alone (R12). -/
theorem applySample_eq (i : Fin 32) (raw : Nat) (s : State) :
    applySample i raw s =
      { s with
        channels := Table.write s.channels i (sampledChannel i raw s)
        events := (applySample i raw s).events } := by
  rw [applySample, raiseIfAny_eq]

@[simp] theorem applySample_fields (i : Fin 32) (raw : Nat) (s : State) :
    (applySample i raw s).pending = s.pending ∧ (applySample i raw s).power = s.power
      ∧ (applySample i raw s).hold = s.hold ∧ (applySample i raw s).port = s.port
      ∧ (applySample i raw s).settings = s.settings
      ∧ (applySample i raw s).channels = Table.write s.channels i (sampledChannel i raw s)
      ∧ (applySample i raw s).zones = s.zones ∧ (applySample i raw s).contacts = s.contacts
      ∧ (applySample i raw s).nextId = s.nextId ∧ (applySample i raw s).reference = s.reference
      ∧ (applySample i raw s).converter = s.converter
      ∧ (applySample i raw s).scanClaim = s.scanClaim ∧ (applySample i raw s).slot = s.slot
      ∧ (applySample i raw s).slotTimer = s.slotTimer ∧ (applySample i raw s).drive = s.drive
      ∧ (applySample i raw s).scan = s.scan := by
  rw [applySample_eq]
  simp

theorem has_applySample (i : Fin 32) (raw : Nat) (s : State) (e : StatusEvent) :
    (applySample i raw s).events.has e =
      (s.events.has e
        || decide ((sampleEvent s.settings s.reference.offset raw
            (Table.read s.channels i)).raised = some e)) := by
  rw [applySample, has_raiseIfAny]

/-! ### The end of a host conversion (R123) -/

/-- All that the end of a host conversion can do. -/
theorem finishHost_cases (cv : Conversion) (raw : Nat) (s : State) :
    (∃ target level, s.slot = .converting target level ∧
        ((cv.held = true ∧ finishHost cv raw s = { s with slot := .queued target level })
          ∨ (cv.held = false ∧ finishHost cv raw s =
            raise .measureDone
              { s with slot := .done target level raw (rangeClass raw), slotTimer := .stopped })))
      ∨ ((∀ target level, s.slot ≠ .converting target level) ∧ finishHost cv raw s = s) := by
  cases hs : s.slot with
  | converting t l =>
    refine .inl ⟨t, l, rfl, ?_⟩
    cases hh : cv.held
    · exact .inr ⟨rfl, by simp [finishHost, hs, hh]⟩
    · exact .inl ⟨rfl, by simp [finishHost, hs, hh]⟩
  | _ => exact .inr ⟨by simp, by simp [finishHost, hs]⟩

end Sys2Proof.Machine
end

