-- ==== Sys2Proof/Laws/Channels.lean ====
section
/-! SUPPORT. Sample events: which path a count takes, and the marks. -/

namespace Sys2Proof.Machine

/-- A count in range (R111). -/
theorem rangeClass_inRange {raw : Nat} (h : 15 < raw) (h' : raw < 4080) :
    rangeClass raw = .inRange := by
  simp [rangeClass, Nat.not_le.mpr h, Nat.not_le.mpr h']

theorem rangeClass_low {raw : Nat} (h : raw ≤ 15) : rangeClass raw = .low := by
  simp [rangeClass, h]

theorem rangeClass_high {raw : Nat} (h : 4080 ≤ raw) : rangeClass raw = .high := by
  simp [rangeClass, show ¬ raw ≤ 15 by omega, h]

/-- A corrected count fits twelve bits (R137). -/
theorem correctedCount_le (offset : Int) (weight raw : Nat) :
    correctedCount offset weight raw ≤ 4095 := by
  unfold correctedCount clampCount
  omega

/-- A channel outside OFF and FAULT gets its sample (R12). -/
theorem sampleEvent_sensing {c : Channel} (g : Settings) (offset : Int) (raw : Nat)
    (h : c.dyn.state ≠ .off) (h' : c.dyn.state ≠ .fault) :
    sampleEvent g offset raw c = appliedSample c.config g offset raw c.dyn := by
  unfold sampleEvent
  split <;> simp_all

/-- A channel in OFF or FAULT gets none (R21). -/
theorem sampleEvent_none {c : Channel} (g : Settings) (offset : Int) (raw : Nat)
    (h : c.dyn.state = .off ∨ c.dyn.state = .fault) :
    sampleEvent g offset raw c = quietOutcome c.dyn := by
  obtain h | h := h <;> simp [sampleEvent, h]

/-- A channel in sensing with a count in range reaches the handler of its state (R15). -/
theorem sampleEvent_inRange {c : Channel} (g : Settings) (offset : Int) {raw : Nat} (hl : 15 < raw)
    (hh : raw < 4080) (h : c.dyn.state ≠ .off) (h' : c.dyn.state ≠ .fault) :
    sampleEvent g offset raw c = inRangeSample c.config g offset raw c.dyn := by
  simp [sampleEvent_sensing g offset raw h h', appliedSample, rangeClass_inRange hl hh]

/-- The fields an in-range sample writes before its handler (R15). -/
@[simp] theorem takeInRange_fields (raw corrected : Nat) (d : ChannelDynamics) :
    (takeInRange raw corrected d).state = d.state
      ∧ (takeInRange raw corrected d).baseline = d.baseline
      ∧ (takeInRange raw corrected d).source = d.source
      ∧ (takeInRange raw corrected d).lastRaw = raw
      ∧ (takeInRange raw corrected d).lastCorrected = corrected
      ∧ (takeInRange raw corrected d).lastDelta = (corrected : Int) - (d.baseline : Int)
      ∧ (takeInRange raw corrected d).debounce = d.debounce
      ∧ (takeInRange raw corrected d).onTime = d.onTime
      ∧ (takeInRange raw corrected d).driftCount = d.driftCount
      ∧ (takeInRange raw corrected d).invertedCount = d.invertedCount
      ∧ (takeInRange raw corrected d).outOfRange = 0
      ∧ (takeInRange raw corrected d).faultCause = d.faultCause
      ∧ (takeInRange raw corrected d).accumulator = d.accumulator
      ∧ (takeInRange raw corrected d).samplesTaken = d.samplesTaken
      ∧ (takeInRange raw corrected d).mark = d.mark := by
  simp [takeInRange]

theorem isTouched_iff (st : ChannelState) :
    st.isTouched = true ↔ st = .touched ∨ st = .releasing := by cases st <;> simp [ChannelState.isTouched]

/-- Leaving touch with FAULT sets the mark (R23). -/
theorem markOnLeaving_fault (d : ChannelDynamics) :
    markOnLeaving d .fault =
      if d.state = .touched ∨ d.state = .releasing then .fault else d.mark := by
  cases hs : d.state <;> cases hm : d.mark <;>
    simp [markOnLeaving, ChannelState.isTouched, LeaveMark.merge, LeaveMark.rank, hs, hm]

/-- Leaving touch with RECALIBRATED sets the mark only where none is held (R23). -/
theorem markOnLeaving_recalibrated (d : ChannelDynamics) :
    markOnLeaving d .recalibrated =
      if (d.state = .touched ∨ d.state = .releasing) ∧ d.mark = .none then .recalibrated
      else d.mark := by
  cases hs : d.state <;> cases hm : d.mark <;>
    simp [markOnLeaving, ChannelState.isTouched, LeaveMark.merge, LeaveMark.rank, hs, hm]

/-- Leaving touch with STUCK gives way to FAULT alone (R23). -/
theorem markOnLeaving_stuck (d : ChannelDynamics) :
    markOnLeaving d .stuck =
      if d.state = .touched ∨ d.state = .releasing then
        if d.mark = .fault then .fault else .stuck
      else d.mark := by
  cases hs : d.state <;> cases hm : d.mark <;>
    simp [markOnLeaving, ChannelState.isTouched, LeaveMark.merge, LeaveMark.rank, hs, hm]

/-- A change of role writes the role, and the dynamic fields unless SENSE stays SENSE (R5). -/
theorem changeRole_cases (role : Role) (c : Channel) :
    (c.config.role = .sense ∧ role = .sense ∧ changeRole role c = c)
      ∨ (¬ (c.config.role = .sense ∧ role = .sense) ∧ changeRole role c =
          { config := { c.config with role := role }
            dyn := .cleared (if role = .sense then .calibrating else .off) }) := by
  cases h : c.config.role <;> cases role <;> simp [changeRole, h]

end Sys2Proof.Machine
end

