-- ==== Sys2Proof/Laws/Contacts.lean ====
section
/-! SUPPORT. The list of contacts: what finding, changing and retiring a record leaves. -/

namespace Sys2Proof.Machine

@[simp] theorem recordChange_fields (k : Change) (c : Contact) :
    (recordChange k c).id = c.id ∧ (recordChange k c).zone = c.zone
      ∧ (recordChange k c).state = c.state ∧ (recordChange k c).changes = c.changes.add k
      ∧ (recordChange k c).revision = (c.revision + 1) % 256
      ∧ (recordChange k c).strength = c.strength ∧ (recordChange k c).age = c.age := by
  simp [recordChange]

@[simp] theorem liftContact_fields (cause : LiftCause) (c : Contact) :
    (liftContact cause c).id = c.id ∧ (liftContact cause c).zone = c.zone
      ∧ (liftContact cause c).state = .lifted cause 0
      ∧ (liftContact cause c).changes = c.changes.add .lifted
      ∧ (liftContact cause c).travel = c.travel := by
  simp [liftContact, recordChange, reportTravel]

@[simp] theorem updateByZone_fields (channels : Vector Channel 32) (z : Zone) (c : Contact) :
    (updateByZone channels z c).id = c.id ∧ (updateByZone channels z c).zone = c.zone
      ∧ (updateByZone channels z c).state = c.state ∧ (updateByZone channels z c).age = c.age := by
  unfold updateByZone
  cases c.travel with
  | none => simp
  | some t =>
    dsimp only
    cases zonePosition z.kind (contributions channels z) (some t.position) with
    | none => simp
    | some p =>
      dsimp only
      split <;> simp [recordChange]

@[simp] theorem ageContact_fields (c : Contact) :
    (ageContact c).id = c.id ∧ (ageContact c).zone = c.zone ∧ (ageContact c).changes = c.changes
      ∧ (ageContact c).revision = c.revision ∧ (ageContact c).travel = c.travel
      ∧ (ageContact c).state.isLifted = c.state.isLifted := by
  unfold ageContact
  split <;> rename_i h <;> simp [h, ContactState.isLifted]

@[simp] theorem acknowledged_fields (c : Contact) :
    (acknowledged c).id = c.id ∧ (acknowledged c).zone = c.zone
      ∧ (acknowledged c).revision = c.revision ∧ (acknowledged c).travel = c.travel
      ∧ (acknowledged c).state.isLifted = c.state.isLifted := by
  unfold acknowledged
  cases h : c.state <;> simp [ContactState.isLifted]

/-- Changing a record keeps the number of records. -/
@[simp] theorem length_updateContact (id : Nat) (f : Contact → Contact) (cs : List Contact) :
    (updateContact id f cs).length = cs.length := by simp [updateContact]

/-- A change that keeps ids keeps the list of ids. -/
theorem ids_updateContact (id : Nat) {f : Contact → Contact} (hf : ∀ c, (f c).id = c.id)
    (cs : List Contact) :
    ((updateContact id f cs).map fun c => c.id) = cs.map fun c => c.id := by
  simp only [updateContact, List.map_map]
  apply List.map_congr_left
  intro c _
  simp only [Function.comp_apply]
  split <;> simp [hf]

theorem mem_updateContact {id : Nat} {f : Contact → Contact} {cs : List Contact} {c : Contact} :
    c ∈ updateContact id f cs ↔ ∃ d ∈ cs, (if d.id = id then f d else d) = c := by
  simp [updateContact]

theorem findContact_none {id : Nat} {cs : List Contact} :
    findContact id cs = none ↔ ∀ c ∈ cs, c.id ≠ id := by simp [findContact]

/-- What is found is a record of the list that carries the id. -/
theorem findContact_some {id : Nat} {cs : List Contact} {c : Contact}
    (h : findContact id cs = some c) : c ∈ cs ∧ c.id = id := by
  unfold findContact at h
  exact ⟨List.mem_of_find?_eq_some h, by simpa using List.find?_some h⟩

/-- Where ids differ, two records with one id are one record. -/
theorem contact_eq_of_id {cs : List Contact} (hn : (cs.map fun c => c.id).Nodup) {c d : Contact}
    (hc : c ∈ cs) (hd : d ∈ cs) (h : c.id = d.id) : c = d :=
  List.inj_on_of_nodup_map hn hc hd h

/-- Where ids differ, the record that carries an id is the one found. -/
theorem findContact_of_mem {cs : List Contact} (hn : (cs.map fun c => c.id).Nodup) {c : Contact}
    (hc : c ∈ cs) : findContact c.id cs = some c := by
  cases h : findContact c.id cs with
  | none => exact absurd rfl (findContact_none.mp h c hc)
  | some d =>
    obtain ⟨hd, he⟩ := findContact_some h
    rw [contact_eq_of_id hn hd hc he]

/-- All that one pair of an acknowledgement can do to the table (R94 to R96). -/
theorem ackPair_cases (id revision : Nat) (cs : List Contact) :
    ackPair id revision cs = cs
      ∨ (∃ c ∈ cs, c.id = id ∧ c.revision = revision ∧ c.state.isLifted = true ∧
          ackPair id revision cs = cs.filter fun x => x.id != id)
      ∨ (∃ c ∈ cs, c.id = id ∧ c.revision = revision ∧ c.state.isLifted = false ∧
          ackPair id revision cs = updateContact id acknowledged cs) := by
  unfold ackPair
  split
  · exact .inl rfl
  · rename_i c hf
    obtain ⟨hc, hi⟩ := findContact_some hf
    split
    · rename_i hr
      cases hl : c.state.isLifted
      · exact .inr (.inr ⟨c, hc, hi, hr, hl, by simp⟩)
      · exact .inr (.inl ⟨c, hc, hi, hr, hl, by simp⟩)
    · exact .inl rfl

/-- What every pair keeps, a list of pairs keeps (R93). -/
theorem ackList_keeps {P : List Contact → Prop}
    (h : ∀ id revision cs, P cs → P (ackPair id revision cs)) (pairs : List (Byte × Byte))
    {cs : List Contact} (hc : P cs) : P (ackList pairs cs).2 := by
  induction pairs generalizing cs with
  | nil => exact hc
  | cons p ps ih => exact ih (h _ _ _ hc)

/-- There is one outcome for each pair (R93). -/
@[simp] theorem length_ackList (pairs : List (Byte × Byte)) (cs : List Contact) :
    (ackList pairs cs).1.length = pairs.length := by
  induction pairs generalizing cs with
  | nil => rfl
  | cons p ps ih => simp [ackList, ih]

/-- An id is followed by one of 1..255 (R67). -/
theorem idAfter_range (id : Nat) : 1 ≤ idAfter id ∧ idAfter id ≤ 255 := by
  unfold idAfter
  split <;> omega

end Sys2Proof.Machine
end

