-- ==== Sys2Proof/Laws/Operands.lean ====
section
/-! SUPPORT. Operand bytes and what they name; numbers and masks as bytes. -/

namespace Sys2Proof.Machine

theorem channelOf_ofNat (i : Fin 32) : channelOf (BitVec.ofNat 8 i.val) = some i := by
  have h : i.val % 256 = i.val := by omega
  simp [channelOf, h]

theorem channelOf_none {b : Byte} (h : 31 < b.toNat) : channelOf b = none := by
  simp [channelOf, show ¬ b.toNat < 32 by omega]

theorem zoneOf_ofNat (i : Fin 16) : zoneOf (BitVec.ofNat 8 i.val) = some i := by
  have h : i.val % 256 = i.val := by omega
  simp [zoneOf, h]

theorem zoneOf_none {b : Byte} (h : 15 < b.toNat) : zoneOf b = none := by
  simp [zoneOf, show ¬ b.toNat < 16 by omega]

theorem roleOf_code (r : Role) : roleOf r.code = some r := by cases r <;> rfl

theorem roleOf_none {b : Byte} (h : 3 < b.toNat) : roleOf b = none := by
  unfold roleOf
  split <;> first | omega | rfl

theorem kindOf_code (k : ZoneKind) : kindOf k.code = some k := by cases k <;> rfl

theorem membersOf_map (ms : List (Fin 32)) :
    membersOf (ms.map fun m => BitVec.ofNat 8 m.val) = some ms := by
  induction ms with
  | nil => rfl
  | cons m ms ih => simp [membersOf, channelOf_ofNat, ih]

theorem targetOf_code (t : Target) : targetOf t.code = some t := by
  cases t with
  | ref => rfl
  | channel i =>
    have h : BitVec.ofNat 8 i.val ≠ 32#8 := by
      intro h
      have := congrArg BitVec.toNat h
      simp at this
      omega
    simp [targetOf, Target.code, byteOf, channelOf_ofNat, h]

/-- A sixteen-bit mask is read from the two bytes that carry it (R184). -/
theorem wordOf_wordBytes (m : BitVec 16) : wordOf (byteOf m.toNat) (byteOf (m.toNat / 256)) = m := by
  unfold wordOf byteOf
  apply BitVec.eq_of_toNat_eq
  have := m.isLt
  simp only [BitVec.toNat_append, BitVec.toNat_ofNat]
  rw [← Nat.shiftLeft_add_eq_or_of_lt (by omega)]
  simp only [Nat.shiftLeft_eq]
  omega

/-- A mask of at least eight bits goes out low byte first (R184). -/
theorem wordBytes_toNat {w : Nat} (e : BitVec w) :
    wordBytes e.toNat = [e.setWidth 8, (e >>> 8).setWidth 8] := by
  simp only [wordBytes, byteOf]
  have h1 : BitVec.ofNat 8 e.toNat = e.setWidth 8 := by
    apply BitVec.eq_of_toNat_eq
    simp
  have h2 : BitVec.ofNat 8 (e.toNat / 256) = (e >>> 8).setWidth 8 := by
    apply BitVec.eq_of_toNat_eq
    simp [Nat.shiftRight_eq_div_pow]
  rw [h1, h2]

/-- A channel is a member when some DEFINED zone lists it (R5). -/
theorem isMember_iff (i : Fin 32) (s : State) :
    isMember i s = true ↔ ∃ k z, Table.read s.zones k = some z ∧ i ∈ z.members := by
  simp only [isMember, Table.anyAt, List.any_eq_true, List.mem_finRange, true_and]
  constructor
  · rintro ⟨k, h⟩
    cases hz : Table.read s.zones k with
    | none => simp [hz, zoneHas] at h
    | some z => exact ⟨k, z, hz, by simpa [hz, zoneHas] using h⟩
  · rintro ⟨k, z, hz, h⟩
    exact ⟨k, by simpa [hz, zoneHas] using h⟩

end Sys2Proof.Machine
end

