-- ==== Sys2Proof/Laws/PerInstr.lean ====
section
/-! SUPPORT. The per-command family `OperandsFit`: the operand bytes of a well-formed request have a
length that R185 allows for its code. -/

namespace Sys2Proof.Laws.OperandsFit

open Sys2Proof.Machine

/-- A well-formed request is carried by a known code with an allowed operand length, at most 20. -/
def Statement (i : Instr) : Prop :=
  ∀ code operands, WellFormed i = true → requestBody i = some (code, operands) →
    knownCode code = true ∧ lengthAllowed code operands.length = true ∧ operands.length ≤ 20

/-- The statement for a command that is no request. -/
theorem of_none {i : Instr} (h : requestBody i = none) : Statement i := by
  intro code operands _ hb
  rw [h] at hb
  cases hb

/-- The statement from the code and the operands that the request has. -/
theorem of_some {i : Instr} {code : Byte} {operands : List Byte}
    (h : requestBody i = some (code, operands)) (hk : knownCode code = true)
    (hl : WellFormed i = true → lengthAllowed code operands.length = true)
    (hn : WellFormed i = true → operands.length ≤ 20) : Statement i := by
  intro code' operands' hw hb
  rw [h] at hb
  cases hb
  exact ⟨hk, hl hw, hn hw⟩

theorem powerOn : Statement .powerOn := of_none rfl
theorem startUpComplete (b : Bool) : Statement (.startUpComplete b) := of_none rfl
theorem rstnLow : Statement .rstnLow := of_none rfl
theorem rstnRise (b : Bool) : Statement (.rstnRise b) := of_none rfl
theorem holdAssert : Statement .holdAssert := of_none rfl
theorem holdRelease : Statement .holdRelease := of_none rfl
theorem requestFrame (a : BitVec 7) (w : WriteTransaction) : Statement (.requestFrame a w) :=
  of_none rfl
theorem addressProbe (a : BitVec 7) : Statement (.addressProbe a) := of_none rfl
theorem replyRead (a : BitVec 7) (l : List Bool) : Statement (.replyRead a l) := of_none rfl
theorem busTimeout (c : CutTransaction) : Statement (.busTimeout c) := of_none rfl
theorem resetComplete (b : Bool) : Statement (.resetComplete b) := of_none rfl
theorem conversionComplete (n : BitVec 12) : Statement (.conversionComplete n) := of_none rfl
theorem roundTimerExpiry : Statement .roundTimerExpiry := of_none rfl
theorem watchTimerExpiry : Statement .watchTimerExpiry := of_none rfl
theorem roundHoldLimitExpiry : Statement .roundHoldLimitExpiry := of_none rfl
theorem measureHoldLimitExpiry : Statement .measureHoldLimitExpiry := of_none rfl
theorem supplyFall : Statement .supplyFall := of_none rfl

theorem identify : Statement .identify := of_some rfl rfl (fun _ => rfl) (by simp)
theorem getStatus : Statement .getStatus := of_some rfl rfl (fun _ => rfl) (by simp)
theorem clearStatus (m : BitVec 16) : Statement (.clearStatus m) :=
  of_some rfl rfl (fun _ => rfl) (by simp [maskBytes, wordBytes])
theorem setModePaused : Statement .setModePaused := of_some rfl rfl (fun _ => rfl) (by simp)
theorem setModeActive : Statement .setModeActive := of_some rfl rfl (fun _ => rfl) (by simp)
theorem setModeWatch : Statement .setModeWatch := of_some rfl rfl (fun _ => rfl) (by simp)
theorem resetFull : Statement .resetFull := of_some rfl rfl (fun _ => rfl) (by simp)
theorem resetScan : Statement .resetScan := of_some rfl rfl (fun _ => rfl) (by simp)
theorem getSettings : Statement .getSettings := of_some rfl rfl (fun _ => rfl) (by simp)
theorem setSettings (r : SettingsOperands) : Statement (.setSettings r) :=
  of_some rfl rfl (fun _ => rfl) (by simp [settingsOperandBytes, maskBytes, wordBytes])
theorem getChannel (i : Byte) : Statement (.getChannel i) := of_some rfl rfl (fun _ => rfl) (by simp)
theorem setChannel (i : Byte) (f : ChannelOperands) : Statement (.setChannel i f) :=
  of_some rfl rfl (fun _ => rfl) (by simp [channelOperandBytes, maskBytes, wordBytes])
theorem setRole (i r : Byte) : Statement (.setRole i r) := of_some rfl rfl (fun _ => rfl) (by simp)
theorem calibrate (m : BitVec 32) (f : Byte) : Statement (.calibrate m f) :=
  of_some rfl rfl (fun _ => rfl) (by simp [channelMaskBytes])
theorem deleteZone (i : Byte) : Statement (.deleteZone i) := of_some rfl rfl (fun _ => rfl) (by simp)
theorem getZone (i : Byte) : Statement (.getZone i) := of_some rfl rfl (fun _ => rfl) (by simp)
theorem readContacts : Statement .readContacts := of_some rfl rfl (fun _ => rfl) (by simp)
theorem readChanges : Statement .readChanges := of_some rfl rfl (fun _ => rfl) (by simp)
theorem measure (t l : Byte) : Statement (.measure t l) := of_some rfl rfl (fun _ => rfl) (by simp)
theorem measureResult : Statement .measureResult := of_some rfl rfl (fun _ => rfl) (by simp)

theorem defineZone (i k t : Byte) (ms : List Byte) : Statement (.defineZone i k t ms) := by
  have hl (h : WellFormed (.defineZone i k t ms) = true) :
      1 ≤ ms.length ∧ ms.length ≤ 8 := by simpa [WellFormed] using h
  refine of_some rfl rfl (fun h => ?_) (fun h => ?_)
  · have := hl h
    simp only [lengthAllowed, List.length_cons]
    have e : (0x30#8).toNat = 0x30 := rfl
    simp only [e, Bool.and_eq_true, decide_eq_true_eq]
    omega
  · have := hl h
    simp only [List.length_cons]
    omega

/-- The pairs of an acknowledgement take two bytes each. -/
theorem length_pairs (ps : List (Byte × Byte)) :
    (ps.flatMap fun p => [p.1, p.2]).length = 2 * ps.length := by
  induction ps with
  | nil => rfl
  | cons p ps ih =>
    simp only [List.flatMap_cons, List.length_append, List.length_cons, List.length_nil, ih]
    omega

theorem ackContacts (ps : List (Byte × Byte)) : Statement (.ackContacts ps) := by
  have hl (h : WellFormed (.ackContacts ps) = true) :
      1 ≤ ps.length ∧ ps.length ≤ 10 := by simpa [WellFormed] using h
  refine of_some rfl rfl (fun h => ?_) (fun h => ?_)
  · have := hl h
    have e : (0x42#8).toNat = 0x42 := rfl
    simp only [lengthAllowed, length_pairs, e, Bool.and_eq_true, decide_eq_true_eq, beq_iff_eq]
    omega
  · have := hl h
    rw [length_pairs]
    omega

end Sys2Proof.Laws.OperandsFit
end

