-- ==== Sys2Proof/Laws/Port.lean ====
section
/-! SUPPORT. What the port does with a frame and with a request: the judgement of a frame built from a
code and operands, and the hand-off of a request in each condition of the port. -/

namespace Sys2Proof.Machine

/-- Every command obeys the family `OperandsFit`. -/
theorem operands_fit (i : Instr) : Laws.OperandsFit.Statement i := by
  cases i
  case defineZone i k t ms => exact Laws.OperandsFit.defineZone i k t ms
  case ackContacts ps => exact Laws.OperandsFit.ackContacts ps
  case clearStatus m => exact Laws.OperandsFit.clearStatus m
  case setSettings r => exact Laws.OperandsFit.setSettings r
  case setChannel i f => exact Laws.OperandsFit.setChannel i f
  case calibrate m f => exact Laws.OperandsFit.calibrate m f
  case identify => exact Laws.OperandsFit.identify
  case getStatus => exact Laws.OperandsFit.getStatus
  case setModePaused => exact Laws.OperandsFit.setModePaused
  case setModeActive => exact Laws.OperandsFit.setModeActive
  case setModeWatch => exact Laws.OperandsFit.setModeWatch
  case resetFull => exact Laws.OperandsFit.resetFull
  case resetScan => exact Laws.OperandsFit.resetScan
  case getSettings => exact Laws.OperandsFit.getSettings
  case getChannel i => exact Laws.OperandsFit.getChannel i
  case setRole i r => exact Laws.OperandsFit.setRole i r
  case deleteZone i => exact Laws.OperandsFit.deleteZone i
  case getZone i => exact Laws.OperandsFit.getZone i
  case readContacts => exact Laws.OperandsFit.readContacts
  case readChanges => exact Laws.OperandsFit.readChanges
  case measure t l => exact Laws.OperandsFit.measure t l
  case measureResult => exact Laws.OperandsFit.measureResult
  all_goals exact Laws.OperandsFit.of_none rfl

/-! ### Frames -/

/-- A frame is the code, the length, the operands and the check byte. -/
theorem frameBytes_eq (code : Byte) (operands : List Byte) :
    frameBytes code operands =
      code :: byteOf operands.length ::
        (operands ++ [crc8 (code :: byteOf operands.length :: operands)]) := rfl

@[simp] theorem length_frameBytes (code : Byte) (operands : List Byte) :
    (frameBytes code operands).length = operands.length + 3 := by
  simp [frameBytes_eq]

theorem toNat_byteOf {n : Nat} (h : n < 256) : (byteOf n).toNat = n := by
  simp [byteOf, Nat.mod_eq_of_lt h]

/-- A write of at most 67 bytes is stored and counted whole (R166). -/
theorem storedBytes_eq {bytes : List Byte} (h : bytes.length ≤ 67) : storedBytes bytes = bytes :=
  List.take_of_length_le h

theorem countedBytes_eq {bytes : List Byte} (h : bytes.length ≤ 68) :
    countedBytes bytes = bytes.length := Nat.min_eq_left h

/-- What a judgement of a code, a right length, operands and a check byte says (R168). -/
theorem judgeStored_eq {code len check : Byte} {operands : List Byte}
    (hl : operands.length = len.toNat) (h : len.toNat ≤ 64) :
    judgeStored (code :: len :: (operands ++ [check])) (operands.length + 3) =
      if check ≠ crc8 (code :: len :: operands) then some .check
      else if !knownCode code then some .unknown
      else if !lengthAllowed code len.toNat then some .length
      else none := by
  have h1 : ¬ (operands.length + 3 < 3) := by omega
  have h2 : ¬ (64 < operands.length) := by omega
  simp [judgeStored, ← hl, h2]

/-- A frame of a known code with an allowed operand length passes R168. -/
theorem judgeFrame_frameBytes {code : Byte} {operands : List Byte} (hk : knownCode code = true)
    (hl : lengthAllowed code operands.length = true) (hn : operands.length ≤ 64) :
    judgeFrame (frameBytes code operands) = none := by
  have e : (byteOf operands.length).toNat = operands.length := toNat_byteOf (by omega)
  rw [judgeFrame, storedBytes_eq (by simp; omega), countedBytes_eq (by simp; omega),
    length_frameBytes, frameBytes_eq, judgeStored_eq e.symm (by omega)]
  simp [hk, hl, e]

/-! ### The hand-off of a request -/

/-- While the part runs with no request executing, a well-formed request is taken (R170). -/
theorem deliver_request {c : Instr} {s : State} (take : State → State) (hw : WellFormed c = true)
    (hc : requestBody c ≠ none) (h : Ready s) :
    deliver c take s = take (showBus (.written (requestFrameOf c).length) s) := by
  obtain ⟨hp, he⟩ := h
  obtain ⟨⟨code, operands⟩, hb⟩ := Option.ne_none_iff_exists'.mp hc
  obtain ⟨hk, hl, hn⟩ := operands_fit c code operands hw hb
  have hj : judgeFrame (requestFrameOf c) = none := by
    simp only [requestFrameOf, hb]
    exact judgeFrame_frameBytes hk hl (by omega)
  simp [deliver, hp, he, hj]

/-- A request in hand is taken. -/
theorem deliver_inHand {c : Instr} {s : State} (take : State → State) (hp : s.power = .running)
    (he : s.port.executing = true) (hf : parseFrame s.port.frame = some c) :
    deliver c take s = take s := by
  simp [deliver, hp, he, hf]

/-- While another request executes none is taken (R170). -/
theorem deliver_other {c : Instr} {s : State} (take : State → State) (he : s.port.executing = true)
    (hf : parseFrame s.port.frame ≠ some c) : deliver c take s = s := by
  simp [deliver, he, hf]

/-- While a reset is in progress or the supply is down no request is taken (R165). -/
theorem deliver_notRunning {c : Instr} {s : State} (take : State → State)
    (hp : s.power ≠ .running) : deliver c take s = s := by
  simp [deliver, hp]

/-- All that a hand-off can leave: the taking, a refusal by R168, or the state as it was. -/
theorem deliver_cases (c : Instr) (take : State → State) (s : State) :
    (s.power = .running ∧ s.port.executing = true ∧ parseFrame s.port.frame = some c
        ∧ deliver c take s = take s)
      ∨ (Ready s ∧ deliver c take s = take (showBus (.written (requestFrameOf c).length) s))
      ∨ (Ready s ∧ ∃ status, deliver c take s =
          refuse status (showBus (.written (requestFrameOf c).length) s))
      ∨ deliver c take s = s := by
  unfold deliver
  split
  · rename_i hp
    split
    · rename_i he
      split
      · rename_i hf
        exact .inl ⟨hp, he, hf, rfl⟩
      · exact .inr (.inr (.inr rfl))
    · rename_i he
      have hr : Ready s := ⟨hp, by simpa using he⟩
      split
      · exact .inr (.inr (.inl ⟨hr, _, rfl⟩))
      · exact .inr (.inl ⟨hr, rfl⟩)
  · exact .inr (.inr (.inr rfl))

/-! ### A request that is taken -/

/-- What the block is handed: the state with the request in hand, or, where the command stands for the
whole exchange, the state after its acknowledged write. -/
def handOff (c : Instr) (s : State) : State :=
  if s.port.executing then s else showBus (.written (requestFrameOf c).length) s

theorem handOff_inHand {s : State} (c : Instr) (h : s.port.executing = true) : handOff c s = s := by
  simp [handOff, h]

theorem handOff_whole {s : State} (c : Instr) (h : s.port.executing = false) :
    handOff c s = showBus (.written (requestFrameOf c).length) s := by
  simp [handOff, h]

/-- A hand-off writes the bus record alone. -/
theorem handOff_eq (c : Instr) (s : State) :
    handOff c s =
      { s with bus := if s.port.executing then s.bus else .written (requestFrameOf c).length } := by
  unfold handOff
  split <;> rfl

/-- With no request in hand, or with this one, a well-formed request is taken (R170). -/
theorem takes_of_ready {c : Instr} {s : State} (h : Ready s) : Takes c s :=
  ⟨h.1, fun he => by simp [h.2] at he⟩

/-- The part hands a well-formed request it takes to the block that owns it. -/
theorem deliver_takes {c : Instr} {s : State} (take : State → State) (hw : WellFormed c = true)
    (hc : requestBody c ≠ none) (h : Takes c s) : deliver c take s = take (handOff c s) := by
  obtain ⟨hp, hf⟩ := h
  cases he : s.port.executing with
  | true => rw [deliver_inHand take hp he (hf he), handOff_inHand c he]
  | false => rw [deliver_request take hw hc ⟨hp, he⟩, handOff_whole c he]

/-- An answer after the hand-off is the state `afterReply` names. -/
theorem answer_handOff (c : Instr) (r : Reply) (s : State) :
    answer r (handOff c s) = afterReply c r s := by
  rw [handOff_eq]
  rfl

theorem refuse_handOff (c : Instr) (status : Status) (s : State) :
    refuse status (handOff c s) = afterReply c (bare status) s := answer_handOff c _ s

theorem answerOk_handOff (c : Instr) (payload : List Byte) (s : State) :
    answerOk payload (handOff c s) = afterReply c { status := .ok, payload := payload } s :=
  answer_handOff c _ s

/-! ### Transactions -/

theorem portReady_iff {s : State} : portReady s = true ↔ Ready s := by
  simp [portReady, Ready]

theorem acknowledges_iff {s : State} {address : BitVec 7} :
    acknowledges address s = true ↔
      Ready s ∧ address = (if s.adselHigh then 0x3B#7 else 0x3A#7) := by
  simp [acknowledges, portReady_iff, portAddress]

theorem acknowledges_eq_false {s : State} {address : BitVec 7} :
    acknowledges address s = false ↔
      ¬ (Ready s ∧ address = (if s.adselHigh then 0x3B#7 else 0x3A#7)) := by
  rw [← acknowledges_iff, Bool.not_eq_true]

@[simp] theorem length_read (r : Reply) (n : Nat) : (r.read n).length = n := by simp [Reply.read]

/-- A refusal drops the frame in hand and the executing flag. -/
@[simp] theorem refuse_holdFrame (status : Status) (bytes : List Byte) (s : State) :
    refuse status (holdFrame bytes s) = refuse status s := rfl

/-- While a frame is in hand no address is acknowledged (R165, R167). -/
@[simp] theorem acknowledges_holdFrame (address : BitVec 7) (bytes : List Byte) (s : State) :
    acknowledges address (holdFrame bytes s) = false := by
  simp [acknowledges, portReady, holdFrame]

/-- All that the end of a write addressed to the part can leave: a refusal, or its frame in hand with
the executing flag on. -/
theorem receiveFrame_cases (bytes : List Byte) (s : State) :
    (∃ status, receiveFrame bytes s = refuse status s)
      ∨ ∃ c, judgeFrame bytes = none ∧ parseFrame (storedBytes bytes) = some c
        ∧ receiveFrame bytes s = holdFrame bytes s := by
  unfold receiveFrame judgeHeld
  split
  · exact .inl ⟨_, refuse_holdFrame _ _ _⟩
  · rename_i hj
    split
    · exact .inl ⟨_, refuse_holdFrame _ _ _⟩
    · rename_i c hc
      exact .inr ⟨c, hj, hc, rfl⟩

/-- The part never sends more bytes than the host clocks (R166). -/
theorem sentCount_le (acks : List Bool) : sentCount acks ≤ acks.length := by
  induction acks with
  | nil => exact le_refl _
  | cons b acks ih =>
    cases b with
    | false => simp [sentCount]
    | true => simpa [sentCount] using ih

/-- While the host acknowledges every byte, the part sends one for each (R166). -/
theorem sentCount_acknowledged (n : Nat) : sentCount (List.replicate n true) = n := by
  induction n with
  | zero => rfl
  | succ n ih => simp [List.replicate_succ, sentCount, ih]

end Sys2Proof.Machine
end

