-- ==== Sys2Proof/Laws/Rounds.lean ====
section
/-! SUPPORT. Scan rounds: the next turn, round-end processing, the start condition and the completion
of a conversion; what each can do and what it leaves alone. -/

namespace Sys2Proof.Machine

/-! ### The next turn (R145) -/

theorem qualifies_iff (kind : RoundKind) (c : Channel) :
    qualifies kind c = true ↔ Qualifies kind c := by
  cases kind <;> simp [qualifies, Qualifies, and_assoc]

/-- The search for the next turn looks at the channels that may still have one (R145). -/
theorem turnOpen_iff (r : Round) (channels : Vector Channel 32) (k : Fin 32) :
    (aboveLast r.last k && qualifies r.kind (Table.read channels k)) = true
      ↔ TurnOpen r channels k := by
  rw [Bool.and_eq_true, qualifies_iff]
  unfold TurnOpen aboveLast
  cases r.last <;> simp

theorem nextChannel_eq_none {r : Round} {channels : Vector Channel 32} :
    nextChannel r channels = none ↔ NoTurnLeft r channels := by
  simp only [nextChannel, List.find?_eq_none, NoTurnLeft, List.mem_finRange, true_implies,
    turnOpen_iff]

/-- The channel found has the next turn. -/
theorem nextTurn_of_nextChannel {r : Round} {channels : Vector Channel 32} {j : Fin 32}
    (h : nextChannel r channels = some j) : NextTurn r channels j := by
  unfold nextChannel at h
  rw [List.find?_eq_some_iff_getElem] at h
  obtain ⟨hj, i, hi, rfl, hlt⟩ := h
  simp only [turnOpen_iff, List.getElem_finRange, Bool.not_eq_true', ← Bool.not_eq_true] at hj hlt ⊢
  refine ⟨hj, fun k hk => ?_⟩
  by_contra hc
  have hki : k.val < i := by simpa [Fin.lt_def] using hc
  exact hlt k.val hki hk

/-- Two channels with the next turn are one. -/
theorem nextTurn_unique {r : Round} {channels : Vector Channel 32} {i j : Fin 32}
    (hi : NextTurn r channels i) (hj : NextTurn r channels j) : i = j :=
  le_antisymm (hi.2 j hj.1) (hj.2 i hi.1)

theorem nextChannel_eq_some {r : Round} {channels : Vector Channel 32} {j : Fin 32} :
    nextChannel r channels = some j ↔ NextTurn r channels j := by
  refine ⟨nextTurn_of_nextChannel, fun h => ?_⟩
  cases hn : nextChannel r channels with
  | none => exact absurd h.1 (nextChannel_eq_none.mp hn j)
  | some i => rw [nextTurn_unique (nextTurn_of_nextChannel hn) h]

/-- A turn goes to the next qualifying channel (R145). -/
theorem channelTurn_next {r : Round} {s : State} {j : Fin 32} (h : NextTurn r s.channels j) :
    channelTurn r s =
      { s with
        scanClaim := some (.channel j)
        scan := { s.scan with round := .running { r with phase := .channels, last := some j } } } := by
  simp [channelTurn, nextChannel_eq_some.mpr h]

/-- With no turn left the round is completed (R147). -/
theorem channelTurn_end {r : Round} {s : State} (h : NoTurnLeft r s.channels) :
    channelTurn r s = completeRound r.kind .proceed s := by
  simp [channelTurn, nextChannel_eq_none.mpr h]

/-! ### Round-end processing (R73 to R83) -/

/-- Expiry writes the contacts and the event set alone (R76). -/
@[simp] theorem expiryStage_fields (s : State) :
    (expiryStage s).pending = s.pending ∧ (expiryStage s).power = s.power
      ∧ (expiryStage s).hold = s.hold ∧ (expiryStage s).attn = s.attn
      ∧ (expiryStage s).port = s.port ∧ (expiryStage s).settings = s.settings
      ∧ (expiryStage s).channels = s.channels ∧ (expiryStage s).zones = s.zones
      ∧ (expiryStage s).nextId = s.nextId ∧ (expiryStage s).resetCause = s.resetCause
      ∧ (expiryStage s).reference = s.reference ∧ (expiryStage s).converter = s.converter
      ∧ (expiryStage s).scanClaim = s.scanClaim ∧ (expiryStage s).slot = s.slot
      ∧ (expiryStage s).slotTimer = s.slotTimer ∧ (expiryStage s).drive = s.drive
      ∧ (expiryStage s).scan = s.scan := by
  unfold expiryStage
  split <;> simp

/-- Every record that does not expire stays, in its place (R76). -/
theorem expiryStage_contacts (s : State) :
    (expiryStage s).contacts = s.contacts.filter fun c => !expires s.settings.autoRetire c := by
  unfold expiryStage
  split
  · rfl
  · rename_i h
    symm
    apply List.filter_eq_self.mpr
    intro c hc
    simp only [List.any_eq_true, not_exists, not_and] at h
    simp [h c hc]

/-- All that the resolution of a DEFINED zone can do (R77). -/
theorem resolveDefined_cases (i : Fin 16) (z : Zone) (s : State) :
    (∃ id, zoneTouched s.channels z = true ∧ z.current = some id ∧ resolveDefined i z s =
        { s with contacts := updateContact id (updateByZone s.channels z) s.contacts })
      ∨ (zoneTouched s.channels z = true ∧ z.current = none ∧
          resolveDefined i z s = serveZone i z s)
      ∨ (∃ id, zoneTouched s.channels z = false ∧ z.current = some id ∧
          resolveDefined i z s = liftZone i z id s)
      ∨ (zoneTouched s.channels z = false ∧ z.current = none ∧ z.pending = true ∧
          resolveDefined i z s = dropZone i z s)
      ∨ (zoneTouched s.channels z = false ∧ z.current = none ∧ z.pending = false ∧
          resolveDefined i z s = s) := by
  cases ht : zoneTouched s.channels z <;> cases hc : z.current <;> cases hp : z.pending <;>
    simp [resolveDefined, ht, hc, hp]

/-- The resolution of one zone writes zones, contacts, the next-id counter and the event set alone. -/
@[simp] theorem resolveZone_fields (s : State) (i : Fin 16) :
    (resolveZone s i).pending = s.pending ∧ (resolveZone s i).power = s.power
      ∧ (resolveZone s i).hold = s.hold ∧ (resolveZone s i).attn = s.attn
      ∧ (resolveZone s i).port = s.port ∧ (resolveZone s i).settings = s.settings
      ∧ (resolveZone s i).channels = s.channels ∧ (resolveZone s i).resetCause = s.resetCause
      ∧ (resolveZone s i).reference = s.reference ∧ (resolveZone s i).converter = s.converter
      ∧ (resolveZone s i).scanClaim = s.scanClaim ∧ (resolveZone s i).slot = s.slot
      ∧ (resolveZone s i).slotTimer = s.slotTimer ∧ (resolveZone s i).drive = s.drive
      ∧ (resolveZone s i).scan = s.scan := by
  unfold resolveZone
  split
  · rename_i z _
    obtain ⟨id, _, _, h⟩ | ⟨_, _, h⟩ | ⟨id, _, _, h⟩ | ⟨_, _, _, h⟩ | ⟨_, _, _, h⟩ :=
      resolveDefined_cases i z s
    · simp [h]
    · rw [h]
      unfold serveZone
      split <;> simp
    · simp [h, liftZone]
    · simp [h, dropZone]
    · simp [h]
  · simp

/-- What every zone's resolution keeps, the resolution of all sixteen keeps. -/
theorem resolutionStage_keeps {P : State → Prop} (h : ∀ s i, P s → P (resolveZone s i)) {s : State}
    (hs : P s) : P (resolutionStage s) := by
  unfold resolutionStage
  generalize List.finRange 16 = l
  induction l generalizing s with
  | nil => exact hs
  | cons i l ih => exact ih (h s i hs)

@[simp] theorem resolutionStage_fields (s : State) :
    (resolutionStage s).pending = s.pending ∧ (resolutionStage s).power = s.power
      ∧ (resolutionStage s).hold = s.hold ∧ (resolutionStage s).attn = s.attn
      ∧ (resolutionStage s).port = s.port ∧ (resolutionStage s).settings = s.settings
      ∧ (resolutionStage s).channels = s.channels
      ∧ (resolutionStage s).resetCause = s.resetCause
      ∧ (resolutionStage s).reference = s.reference
      ∧ (resolutionStage s).converter = s.converter
      ∧ (resolutionStage s).scanClaim = s.scanClaim ∧ (resolutionStage s).slot = s.slot
      ∧ (resolutionStage s).slotTimer = s.slotTimer ∧ (resolutionStage s).drive = s.drive
      ∧ (resolutionStage s).scan = s.scan := by
  have h := resolutionStage_keeps (s := s)
    (P := fun t => t.pending = s.pending ∧ t.power = s.power ∧ t.hold = s.hold ∧ t.attn = s.attn
      ∧ t.port = s.port ∧ t.settings = s.settings ∧ t.channels = s.channels
      ∧ t.resetCause = s.resetCause ∧ t.reference = s.reference ∧ t.converter = s.converter
      ∧ t.scanClaim = s.scanClaim ∧ t.slot = s.slot ∧ t.slotTimer = s.slotTimer
      ∧ t.drive = s.drive ∧ t.scan = s.scan)
    (fun t i ht => by simpa using ht) (by simp)
  exact h

/-- Round-end processing clears every mark and writes no other channel field (R83, R85). -/
@[simp] theorem roundEndProcessing_fields (s : State) :
    (roundEndProcessing s).pending = s.pending ∧ (roundEndProcessing s).power = s.power
      ∧ (roundEndProcessing s).hold = s.hold ∧ (roundEndProcessing s).attn = s.attn
      ∧ (roundEndProcessing s).port = s.port ∧ (roundEndProcessing s).settings = s.settings
      ∧ (roundEndProcessing s).channels = Table.mapAt (fun _ c => clearMark c) s.channels
      ∧ (roundEndProcessing s).resetCause = s.resetCause
      ∧ (roundEndProcessing s).reference = s.reference
      ∧ (roundEndProcessing s).converter = s.converter
      ∧ (roundEndProcessing s).scanClaim = s.scanClaim ∧ (roundEndProcessing s).slot = s.slot
      ∧ (roundEndProcessing s).slotTimer = s.slotTimer ∧ (roundEndProcessing s).drive = s.drive
      ∧ (roundEndProcessing s).scan = s.scan := by
  simp [roundEndProcessing]

/-! ### Start and end of a round (R143, R147, R148) -/

/-- All that the start condition can do (R148). -/
theorem startIfDue_cases (s : State) :
    (s.scan.round = .idle ∧ s.scan.mode = .active ∧ s.scan.roundTimer = .expired
        ∧ startIfDue s = startRound .active s)
      ∨ (s.scan.round = .idle ∧ s.scan.mode = .watch ∧ s.scan.watchTimer = .expired
        ∧ startIfDue s = startRound .watch s)
      ∨ startIfDue s = s := by
  unfold startIfDue
  split
  · split <;> simp_all
  · split <;> simp_all
  · simp

@[simp] theorem startIfDue_fields (s : State) :
    (startIfDue s).pending = s.pending ∧ (startIfDue s).power = s.power
      ∧ (startIfDue s).hold = s.hold ∧ (startIfDue s).attn = s.attn
      ∧ (startIfDue s).port = s.port ∧ (startIfDue s).settings = s.settings
      ∧ (startIfDue s).channels = s.channels ∧ (startIfDue s).zones = s.zones
      ∧ (startIfDue s).contacts = s.contacts ∧ (startIfDue s).nextId = s.nextId
      ∧ (startIfDue s).events = s.events ∧ (startIfDue s).reference = s.reference
      ∧ (startIfDue s).converter = s.converter ∧ (startIfDue s).slot = s.slot
      ∧ (startIfDue s).slotTimer = s.slotTimer ∧ (startIfDue s).drive = s.drive
      ∧ (startIfDue s).scan.mode = s.scan.mode ∧ (startIfDue s).scan.counter = s.scan.counter := by
  obtain ⟨_, _, _, h⟩ | ⟨_, _, _, h⟩ | h := startIfDue_cases s <;> simp [h, startRound]

@[simp] theorem closeRound_scan (kind : RoundKind) (s : State) :
    (closeRound kind s).scan =
      { s.scan with
        counter := (s.scan.counter + 1) % 65536, holdTimer := .stopped, round := .idle } := by
  unfold closeRound
  split <;> simp

/-- A round end raises ROUND_OVERRUN when the timer of the round's kind is EXPIRED (R149). -/
theorem has_closeRound (kind : RoundKind) (s : State) (e : StatusEvent) :
    (closeRound kind s).events.has e =
      (s.events.has e || decide (e = .roundOverrun ∧ timerOfKind kind s = .expired)) := by
  by_cases h : timerOfKind kind s = .expired <;> simp [closeRound, h]

@[simp] theorem closeRound_fields (kind : RoundKind) (s : State) :
    (closeRound kind s).pending = s.pending ∧ (closeRound kind s).power = s.power
      ∧ (closeRound kind s).hold = s.hold ∧ (closeRound kind s).attn = s.attn
      ∧ (closeRound kind s).port = s.port ∧ (closeRound kind s).settings = s.settings
      ∧ (closeRound kind s).channels = s.channels ∧ (closeRound kind s).zones = s.zones
      ∧ (closeRound kind s).contacts = s.contacts ∧ (closeRound kind s).nextId = s.nextId
      ∧ (closeRound kind s).reference = s.reference
      ∧ (closeRound kind s).converter = s.converter
      ∧ (closeRound kind s).scanClaim = s.scanClaim ∧ (closeRound kind s).slot = s.slot
      ∧ (closeRound kind s).slotTimer = s.slotTimer ∧ (closeRound kind s).drive = s.drive := by
  unfold closeRound
  split <;> simp

/-- A round's start writes the claim and the Scan Controller's fields alone (R143). -/
theorem startRound_eq (kind : RoundKind) (s : State) :
    startRound kind s =
      { s with scanClaim := some .ref, scan := scanAtStart kind s s.scan } := by
  cases kind <;> rfl

/-- A round's end writes the Scan Controller's fields and the event set alone (R147). -/
theorem closeRound_eq (kind : RoundKind) (s : State) :
    closeRound kind s = { s with events := (closeRound kind s).events, scan := scanAtEnd s } := by
  unfold closeRound
  split <;> rfl

/-- The mode in which rounds of a kind run (R142, R143). -/
def RoundKind.mode : RoundKind → ScanMode
  | .active => .active
  | .watch => .watch

/-- With the round state IDLE a round starts exactly when the timer of the present mode is EXPIRED
(R148). -/
theorem startIfDue_idle {kind : RoundKind} {s : State} (hr : s.scan.round = .idle)
    (hm : s.scan.mode = kind.mode) :
    startIfDue s = if timerOfKind kind s = .expired then startRound kind s else s := by
  cases kind <;> simp only [RoundKind.mode] at hm <;> simp only [startIfDue, hr, hm] <;> rfl

theorem watchedTouched_iff (s : State) :
    watchedTouched s = true ↔ ∃ i, (Table.read s.channels i).config.role = .sense
      ∧ (Table.read s.channels i).config.watch = true
      ∧ (Table.read s.channels i).dyn.state = .touched := by
  simp [watchedTouched, Table.anyAt_eq_true, and_assoc]

/-- What a completed round leaves: the counter advanced, and the round state IDLE or a new round only
started (R147, R148, R150, R159). -/
theorem completeRound_ended (kind : RoundKind) (verdict : Verdict) (s : State) :
    (completeRound kind verdict s).scan.counter = (s.scan.counter + 1) % 65536
      ∧ ((completeRound kind verdict s).scan.round = .idle
        ∨ ∃ k, (completeRound kind verdict s).scan.round =
            .running { kind := k, phase := .reference, last := none }) := by
  have h : (passOn kind verdict (closeRound kind s)).scan.counter = (s.scan.counter + 1) % 65536
      ∧ ((passOn kind verdict (closeRound kind s)).scan.round = .idle
        ∨ ∃ k, (passOn kind verdict (closeRound kind s)).scan.round =
            .running { kind := k, phase := .reference, last := none }) := by
    cases verdict <;> cases kind <;> simp only [passOn]
    case proceed.watch => unfold wakeCheck; split <;> simp [startRound]
    all_goals simp
  unfold completeRound
  obtain ⟨_, _, _, h'⟩ | ⟨_, _, _, h'⟩ | h' := startIfDue_cases (passOn kind verdict (closeRound kind s))
  · rw [h']; exact ⟨h.1, .inr ⟨_, rfl⟩⟩
  · rw [h']; exact ⟨h.1, .inr ⟨_, rfl⟩⟩
  · rw [h']; exact h

/-! ### The completion of a conversion (R112) -/

/-- A HOST conversion ends in its slot, and a grant follows. -/
theorem completeConversion_host {s : State} {cv : Conversion} (raw : Nat)
    (h : s.converter = some cv) (hc : cv.claimant = .host) :
    completeConversion raw s = grant (finishHost cv raw (releaseConverter s)) := by
  simp [completeConversion, h, hc]

/-- A SCAN conversion is handed on, and a grant follows. -/
theorem completeConversion_scan {s : State} {cv : Conversion} (raw : Nat)
    (h : s.converter = some cv) (hc : cv.claimant = .scan) :
    completeConversion raw s = grant (finishScan cv raw (releaseConverter s)) := by
  simp [completeConversion, h, hc]

/-- A judgement of ATTN and the arbiter's grant do not touch each other. -/
theorem grant_withAttn (b : Bool) (u : State) :
    grant { u with attn := b } = { grant u with attn := b } := by
  unfold grant
  dsimp only
  split
  · rfl
  · split <;> rfl

/-- The end of a conversion, in the words of the statements: what its outcome leaves, then the grant,
then ATTN. -/
theorem conversionEnds_grant {u v : State}
    (h : v = { u with converter := none, drive := idlePins u.channels }) :
    ConversionEnds u (judgeAttn (grant v)) := by
  refine ⟨judgeAttn_attnLaw _, _, restingPins_idlePins u, ?_⟩
  have e : judgeAttn (grant v) = grant { v with attn := (judgeAttn (grant v)).attn } :=
    (judgeAttn_eq _).trans (grant_withAttn _ v).symm
  have g := grantedFrom_grant { v with attn := (judgeAttn (grant v)).attn }
  rw [← e] at g
  subst h
  exact g

/-- Whether the conversion was held or lost its role decides R113, a lost role first. -/
theorem discardOf_eq (cv : Conversion) :
    discardOf cv =
      if cv.roleLost = true ∧ cv.target ≠ .ref then .roleLost
      else if cv.held = true then .held else .kept := rfl

/-- The conversion of a round is in flight. -/
theorem roundInFlight_iff (s : State) : roundInFlight s = true ↔ ∃ cv, RoundConverts s cv := by
  unfold roundInFlight RoundConverts
  cases h : s.converter <;> simp

/-- A pin's drive during a conversion of an electrode (R114). -/
theorem read_pinsFor_channel (t p : Fin 32) (s : State) :
    Table.read (pinsFor (.channel t) s) p =
      sensingDrive s.settings.idleSenseDrive t p (Table.read s.channels p).config.role := by
  simp [pinsFor]

theorem pinsFor_ref (s : State) : pinsFor .ref s = idlePins s.channels := rfl

end Sys2Proof.Machine
end

