-- ==== Sys2Proof/Laws/Zones.lean ====
section
/-! SUPPORT. What a zone reads from its members. -/

namespace Sys2Proof.Machine

/-- A zone is touched when a member is in TOUCHED or RELEASING (R22, R53). -/
theorem zoneTouched_iff (channels : Vector Channel 32) (z : Zone) :
    zoneTouched channels z = true ↔
      ∃ m ∈ z.members, (Table.read channels m).dyn.state = .touched
        ∨ (Table.read channels m).dyn.state = .releasing := by
  simp [zoneTouched, isTouched_iff]

/-- Every contribution is at most the strength (R54). -/
theorem le_strengthOf {d : List Nat} {m : Nat} (h : m ∈ d) : m ≤ strengthOf d := by
  induction d with
  | nil => cases h
  | cons a d ih =>
    have e : strengthOf (a :: d) = max a (strengthOf d) := rfl
    rw [e]
    rcases List.mem_cons.mp h with rfl | h
    · exact le_max_left _ _
    · exact (ih h).trans (le_max_right _ _)

/-- The strength is one of the contributions (R54). -/
theorem strengthOf_mem {d : List Nat} (h : d ≠ []) : strengthOf d ∈ d := by
  induction d with
  | nil => exact absurd rfl h
  | cons a d ih =>
    have e : strengthOf (a :: d) = max a (strengthOf d) := rfl
    by_cases hd : d = []
    · subst hd
      simp [strengthOf]
    · rw [e]
      rcases le_total a (strengthOf d) with hle | hle
      · rw [max_eq_right hle]
        exact List.mem_cons_of_mem _ (ih hd)
      · rw [max_eq_left hle]
        exact List.mem_cons_self

/-- The peak is a place of the list and holds the strength (R55). -/
theorem peakOf_spec {d : List Nat} (h : d ≠ []) :
    peakOf d < d.length ∧ d.getD (peakOf d) 0 = strengthOf d := by
  have hlt : peakOf d < d.length := List.idxOf_lt_length_iff.mpr (strengthOf_mem h)
  refine ⟨hlt, ?_⟩
  rw [List.getD_eq_getElem _ _ hlt]
  exact List.getElem_idxOf hlt

/-- Rounding to nearest with halves upward, as two inequalities (R55). -/
theorem roundHalfUp_spec (num : Int) {den : Nat} (h : 0 < den) :
    (2 * roundHalfUp num den - 1) * den ≤ 2 * num ∧ 2 * num < (2 * roundHalfUp num den + 1) * den := by
  unfold roundHalfUp
  have h1 : (0 : Int) < 2 * den := by omega
  have e := Int.mul_ediv_add_emod (2 * num + den) (2 * den)
  have h2 := Int.emod_nonneg (2 * num + den) (ne_of_gt h1)
  have h3 := Int.emod_lt_of_pos (2 * num + den) h1
  generalize (2 * num + (den : Int)) / (2 * den) = q at *
  generalize (2 * num + (den : Int)) % (2 * den) = r at *
  constructor <;> nlinarith

/-- A merge of marks from a starting mark is the one of highest precedence among them (R23, R60). -/
theorem foldl_merge (f : Fin 32 → LeaveMark) (ms : List (Fin 32)) (m0 : LeaveMark) :
    ms.foldl (fun held m => held.merge (f m)) m0 =
      if m0 = .fault ∨ ∃ m ∈ ms, f m = .fault then .fault
      else if m0 = .stuck ∨ ∃ m ∈ ms, f m = .stuck then .stuck
      else if m0 = .recalibrated ∨ ∃ m ∈ ms, f m = .recalibrated then .recalibrated
      else .none := by
  induction ms generalizing m0 with
  | nil => cases m0 <;> simp
  | cons m ms ih =>
    simp only [List.foldl_cons, ih, List.mem_cons, exists_eq_or_imp]
    cases m0 <;> cases h : f m <;> simp [LeaveMark.merge, LeaveMark.rank]

/-- The leave summary is the mark of highest precedence that a member holds (R60). -/
theorem leaveSummary_eq (channels : Vector Channel 32) (z : Zone) :
    leaveSummary channels z =
      if ∃ m ∈ z.members, (Table.read channels m).dyn.mark = .fault then .fault
      else if ∃ m ∈ z.members, (Table.read channels m).dyn.mark = .stuck then .stuck
      else if ∃ m ∈ z.members, (Table.read channels m).dyn.mark = .recalibrated then .recalibrated
      else .none := by
  rw [leaveSummary, foldl_merge fun m => (Table.read channels m).dyn.mark]
  simp

end Sys2Proof.Machine
end

