-- ==== Sys2Proof/Tests/Slice0.lean ====
section
/-! SUPPORT. The model's own tests: worked figures of the spec, one ill-formed term for each check of
`WellFormed`, and for each obligation with hypotheses a state and operands that meet them. -/

namespace Sys2Proof.Tests

open Sys2Proof.Machine

-- One theorem after another: each `decide +kernel` waits in a thread of its own otherwise.
set_option Elab.async false

/-! ### Helpers -/

/-- The state after one command. -/
def one (c : Instr) (s : State) : State :=
  match exec c s with
  | .next t => t
  | .fault _ => s
  | .refused _ => s

/-- The reply that a request leaves, as it crosses the port. -/
def reply (c : Instr) (s : State) : List Byte := (one c s).port.reply.bytes

/-- A SENSE channel in a state, baseline 1200, with the configuration of the worked examples. -/
def electrode (state : ChannelState) : Channel :=
  { config := { ChannelConfig.fullReset with role := .sense }
    dyn := { ChannelDynamics.cleared state with baseline := 1200, source := .calibrated } }

/-- The part with E0 as given, and Z0 and the contacts as given. -/
def panel (c : Channel) (z : Option Zone) (cs : List Contact) : State :=
  let channels := Table.write (Table.const 32 .fullReset) 0 c
  { State.reset with
    channels := channels
    zones := Table.write (Table.const 16 none) 0 z
    contacts := cs
    nextId := 2
    drive := idlePins channels }

/-- A BUTTON on E0 with the current contact and pending flag given. -/
def button (current : Option Nat) (pending : Bool) : Zone :=
  { kind := .button, moveThreshold := 0, members := [0], current := current, pending := pending,
    dropped := false }

/-- A record of Z0 at revision 1. -/
def record (id : Nat) (state : ContactState) : Contact :=
  { id := id, zone := 0, state := state
    changes := { appeared := true, moved := false, lifted := state.isLifted }
    revision := 1, travel := none, strength := 90, age := 0 }

/-- A conversion in flight. -/
def converting (claimant : Claimant) (target : Target) (held roleLost : Bool) : Conversion :=
  { claimant := claimant, target := target, level := 3, durationUs := 512, held := held,
    roleLost := roleLost, ofRound := decide (claimant = .scan) }

/-- A state in a mode with a round state and a conversion in flight or none. -/
def scanning (s : State) (mode : ScanMode) (round : RoundState) (cv : Option Conversion) : State :=
  { s with scan := { s.scan with mode := mode, round := round }, converter := cv }

/-- A round of a kind that has handled no channel. -/
def firstTurn (kind : RoundKind) : Round := { kind := kind, phase := .reference, last := none }

/-- A round of a kind whose last channel handled is E0. -/
def lastTurn (kind : RoundKind) : Round := { kind := kind, phase := .channels, last := some 0 }

/-! ### Well-formedness: the check refuses each ill-formed term -/

theorem test_frame_without_bytes_is_ill_formed :
    WellFormed (.requestFrame 0x3A#7 { bytes := [], ending := .stop }) = false := rfl

theorem test_zone_members_are_1_to_8 :
    WellFormed (.defineZone 0 1 0 []) = false
      ∧ WellFormed (.defineZone 0 1 0 (List.replicate 9 0)) = false
      ∧ WellFormed (.defineZone 0 1 0 [0]) = true
      ∧ WellFormed (.defineZone 0 1 0 (List.replicate 8 0)) = true := by decide

theorem test_acknowledged_pairs_are_1_to_10 :
    WellFormed (.ackContacts []) = false
      ∧ WellFormed (.ackContacts (List.replicate 11 (1, 1))) = false
      ∧ WellFormed (.ackContacts [(1, 1)]) = true
      ∧ WellFormed (.ackContacts (List.replicate 10 (1, 1))) = true := by decide

/-- No row of the table has bits, so no word spells a command. -/
theorem test_no_word_spells_a_command (n w : Nat) : decodeTableWord n w = none := rfl

/-! ### Frames (R168, R169, R171 to R173) -/

/-- The three-byte example of section 9.3: 20h, 01h, 05h has check byte 4Dh. -/
theorem test_crc_of_get_channel : crc8 [0x20#8, 0x01#8, 0x05#8] = 0x4D#8 := by
  decide +kernel

theorem test_frame_of_get_channel :
    requestFrameOf (.getChannel 5) = [0x20#8, 0x01#8, 0x05#8, 0x4D#8]
      ∧ parseFrame [0x20#8, 0x01#8, 0x05#8, 0x4D#8] = some (.getChannel 5) := by decide +kernel

/-- The NO_REQUEST reply of section 10.3 reads 0Ah, 00h, 82h, and FFh past its check byte; no byte is
sent after the first that the host does not acknowledge. -/
theorem test_read_of_no_request :
    (one (.replyRead 0x3A#7 [true, true, true, true]) State.reset).bus.sent =
        [0x0A#8, 0x00#8, 0x82#8, 0xFF#8]
      ∧ (one (.replyRead 0x3A#7 [true, false, true, true]) State.reset).bus.sent =
        [0x0A#8, 0x00#8] := by
  decide +kernel

/-- The frame of section 9.3, and the same with a wrong check byte. -/
def frame (check : Byte) (ending : FrameEnd) : Instr :=
  .requestFrame 0x3A#7 { bytes := [0x20#8, 0x01#8, 0x05#8, check], ending := ending }

theorem test_frame_sets_the_executing_flag :
    (one (frame 0x4D#8 .stop) State.reset).port.executing = true
      ∧ (one (frame 0x4C#8 .stop) State.reset).port.reply.status = .check := by decide +kernel

/-- Every data byte is acknowledged, and a read addressed at once is not, after a refused frame too. -/
theorem test_repeated_start_finds_the_executing_flag_on :
    (one (frame 0x4C#8 (.repeatedStart 0x3A#7)) State.reset).bus =
      { acknowledged := true, dataAcknowledged := 4, sent := [], addressedAtOnce := some false } := by
  decide +kernel

theorem test_probe_of_another_address :
    (one (.addressProbe 0x3A#7) State.reset).bus.acknowledged = true
      ∧ (one (.addressProbe 0x3B#7) State.reset).bus.acknowledged = false := by decide +kernel

theorem test_bus_timeout_discards_the_frame :
    (one (.busTimeout (.write [0x20#8, 0x01#8, 0x05#8, 0x4D#8])) State.reset).port =
      State.reset.port := by decide +kernel

/-! ### Requests to the part (R176, R186) -/

theorem test_identify :
    reply .identify State.reset =
      [0x00#8, 0x06#8, 0x8A#8, 0x0C#8, 0x41#8, 0x20#8, 0x10#8, 0x0A#8,
        crc8 [0x00#8, 0x06#8, 0x8A#8, 0x0C#8, 0x41#8, 0x20#8, 0x10#8, 0x0A#8]] := by
  decide +kernel

/-- The settings record straight after a full reset, byte by byte (section 10.4). -/
theorem test_settings_after_reset :
    (one .getSettings State.reset).port.reply.payload =
      [0x14#8, 0x04#8, 0x32#8, 0x00#8, 0x03#8, 0xC8#8, 0x00#8, 0x08#8, 0x08#8, 0x10#8, 0x01#8,
        0x28#8, 0x00#8, 0x05#8, 0xDC#8, 0x05#8, 0x00#8, 0xFF#8, 0x07#8] := by decide +kernel

/-- The settings record of the full reset as SET SETTINGS carries it. -/
def resetRecord : SettingsOperands :=
  { roundInterval := 20, watchInterval := 4, holdLimit := 50, idleSenseDrive := 0,
    referenceLevel := 3, referenceLimit := 200, noiseLimit := 8, calibrationSamples := 8,
    driftInterval := 16, driftStep := 1, invertedLimit := 40, invertedRounds := 5, maxOn := 1500,
    autoRetire := 0, attentionMask := 0x07FF }

theorem test_set_settings_drops_unnamed_mask_bits :
    (one (.setSettings { resetRecord with attentionMask := 0xF801 }) State.reset).settings.attentionMask
      = 0x001#11 := by decide +kernel

theorem test_set_settings_out_of_range :
    (one (.setSettings { resetRecord with calibrationSamples := 5 }) State.reset).port.reply.status
      = .range := by decide +kernel

/-- Section 11.5: Z3 and Z9 pending read 0208h in the pending zone mask. -/
theorem test_pending_mask :
    pendingMask (Table.write (Table.write (Table.const 16 none) 3 (some (button none true))) 9
      (some (button none true))) = 0x0208 := by decide +kernel

theorem test_status_after_reset :
    (one .getStatus State.reset).port.reply.payload =
      [0#8, 1#8, 1#8, 0#8, 0#8, 0#8, 0#8, 0#8, 0#8, 0#8, 0#8] := by decide +kernel

/-- Section 11.1 step 9: the set empties and ATTN is released. -/
theorem test_clear_status_releases_attn :
    (one (.clearStatus 1) State.reset).events = 0#11
      ∧ (one (.clearStatus 1) State.reset).attn = false := by decide +kernel

/-! ### Modes (R153 to R158) -/

theorem test_active_round_starts_at_once :
    (one .setModeActive State.reset).converter = some (converting .scan .ref false false)
      ∧ (one .setModeActive State.reset).scan.roundTimer = .running 20 := by decide +kernel

theorem test_watch_waits_for_its_timer :
    (one .setModeWatch State.reset).scan.watchTimer = .running 200
      ∧ (one .setModeWatch State.reset).converter = none := by decide +kernel

theorem test_watch_refused_while_touched :
    (one .setModeWatch (panel (electrode .touched) (some (button (some 1) false))
      [record 1 .down])).port.reply.status = .state := by decide +kernel

theorem test_paused_closes_a_round_in_flight :
    (one .setModePaused (one .setModeActive State.reset)).scan.round = .closing (firstTurn .active) := by
  decide +kernel

/-! ### Channels (R5, R7, R16 to R20, R30, R36 to R38, R137) -/

theorem test_set_role_starts_calibration :
    Table.read (one (.setRole 5 1) State.reset).channels 5 =
      { config := { ChannelConfig.fullReset with role := .sense }, dyn := .cleared .calibrating } := by
  decide +kernel

theorem test_member_keeps_its_role :
    (one (.setRole 0 2) (panel (electrode .quiet) (some (button none false)) [])).port.reply.status =
      .inUse := by decide +kernel

theorem test_calibrate_counts_and_marks :
    (one (.calibrate 3 0) (panel (electrode .touched) none [])).port.reply.payload = [1#8]
      ∧ (Table.read (one (.calibrate 3 0) (panel (electrode .touched) none [])).channels 0).dyn.mark =
        .recalibrated := by decide +kernel

/-- The operands of section 11.1 step 5 for E0. -/
def fields : ChannelOperands :=
  { level := 3, touchThreshold := 60, releaseThreshold := 40, referenceWeight := 16, watchFlag := 0,
    debounceIn := 2, debounceOut := 2 }

theorem test_set_channel_threshold_order :
    (one (.setChannel 0 { fields with releaseThreshold := 60 }) State.reset).port.reply.status =
        .range
      ∧ (one (.setChannel 0 fields) State.reset).port.reply.status = .ok := by decide +kernel

theorem test_get_channel_out_of_range :
    (one (.getChannel 32) State.reset).port.reply.status = .range
      ∧ (one (.getChannel 31) State.reset).port.reply.payload.length = 32 := by decide +kernel

/-- What a run of corrected counts leaves on a channel; offset 0, so raw counts stand for them. -/
def samples (g : Settings) (c : Channel) (counts : List Nat) : Channel :=
  counts.foldl (fun c raw => { c with dyn := (sampleEvent g 0 raw c).dyn }) c

/-- The press on E5 of section 1.5, samples 1 to 3. -/
theorem test_press :
    (samples .fullReset (electrode .quiet) [1210, 1275]).dyn.state = .arming
      ∧ (samples .fullReset (electrode .quiet) [1210, 1275, 1290]).dyn.state = .touched := by decide

/-- The release on E5 of section 1.5, samples 4 to 8. -/
theorem test_release :
    (samples .fullReset (electrode .touched) [1285, 1230, 1250, 1225]).dyn.onTime = 4
      ∧ (samples .fullReset (electrode .touched) [1285, 1230, 1250, 1225]).dyn.state = .releasing
      ∧ (samples .fullReset (electrode .touched) [1285, 1230, 1250, 1225, 1215]).dyn.onTime = 0
      ∧ (samples .fullReset (electrode .touched) [1285, 1230, 1250, 1225, 1215]).dyn.state = .quiet :=
  by decide

/-- The calibration of E5 of section 2.3, with its HIGH sample. -/
theorem test_calibration_mean :
    let c := samples .fullReset { electrode .calibrating with dyn := .cleared .calibrating }
      [1201, 1199, 1204, 4095, 1198, 1202, 1200, 1203, 1197]
    c.dyn.baseline = 1200 ∧ c.dyn.source = .calibrated ∧ c.dyn.lastDelta = -3
      ∧ c.dyn.state = .quiet := by decide

/-- In that calibration the last delta equals the corrected count (spec/02, section 2.3). -/
theorem test_first_calibration_writes_the_delta :
    let c := samples .fullReset { electrode .calibrating with dyn := .cleared .calibrating } [1201, 1199]
    c.dyn.lastDelta = 1199 ∧ c.dyn.lastRaw = 1199 ∧ c.dyn.baseline = 0 := by decide

/-- In a recalibration the delta is measured against the baseline from before it (R15). -/
theorem test_recalibration :
    let e := { electrode .quiet with dyn := startCalibration (electrode .quiet).dyn }
    let d := (sampleEvent .fullReset 0 1300 e).dyn
    d.state = .calibrating ∧ d.baseline = 1200 ∧ d.samplesTaken = 1 ∧ d.lastRaw = 1300
      ∧ d.lastDelta = 100 := by decide

/-- A first calibration's record after one sample, and the record after CALIBRATE and the same sample again,
are one: the fifteen fields of R3 do not tell a recalibration (log entry 17). -/
theorem test_record_does_not_tell_a_recalibration :
    let c := { electrode .calibrating with dyn := .cleared .calibrating }
    let d := (sampleEvent .fullReset 2 1201 c).dyn
    (sampleEvent .fullReset 2 1201 { c with dyn := startCalibration d }).dyn = d
      ∧ d.lastRaw = 1201 ∧ d.lastCorrected = 1199 ∧ d.lastDelta = 1199 := by decide

/-- The drift on E5 of section 2.4. -/
theorem test_drift :
    let g := { Settings.fullReset with driftInterval := 4, driftStep := 2 }
    let c := samples g (electrode .quiet) [1205, 1205, 1205, 1205, 1204, 1157, 1203]
    c.dyn.baseline = 1202 ∧ c.dyn.source = .drifted ∧ c.dyn.driftCount = 2
      ∧ c.dyn.invertedCount = 0 ∧ c.dyn.lastDelta = 1 := by decide

/-- E2 of section 11.4: five deltas of −60 re-baseline it. -/
theorem test_inverted :
    let e := electrode .quiet
    let c := samples .fullReset { e with dyn := { e.dyn with baseline := 1260 } }
      [1200, 1200, 1200, 1200, 1200]
    c.dyn.baseline = 1200 ∧ c.dyn.source = .inverted ∧ c.dyn.lastDelta = 0 := by decide

/-- Three out-of-range samples put a touched channel in FAULT, the cause being the last one's class. -/
theorem test_fault :
    let c := samples .fullReset (electrode .touched) [4080, 15, 4095]
    c.dyn.state = .fault ∧ c.dyn.faultCause = .high ∧ c.dyn.mark = .fault := by decide

/-- The corrected counts of section 7.3, weights 5, 8 and 16. -/
theorem test_corrected_counts :
    correctedCount (-37) 5 1000 = 1011 ∧ correctedCount (-37) 8 1000 = 1018
      ∧ correctedCount 37 5 1000 = 989 ∧ correctedCount 190 5 150 = 91
      ∧ correctedCount 190 16 150 = 0 := by decide

/-! ### The reference (R132 to R135): the table of section 7.6 -/

/-- The Reference Unit of the example after a run of raw counts. -/
def references (counts : List Nat) : Reference :=
  counts.foldl (fun r raw => (judgeReference { Settings.fullReset with noiseLimit := 3 } raw r).reference)
    { state := .set, baseline := 2000, offset := 0, noiseCount := 0 }

theorem test_reference_runs :
    references [2030, 2250, 4085, 2260] =
        { state := .set, baseline := 2000, offset := 30, noiseCount := 2 }
      ∧ references [2030, 2250, 4085, 2260, 1990, 2300, 2310, 2305, 2320] =
        { state := .set, baseline := 2305, offset := 15, noiseCount := 0 } := by decide

/-! ### Zones (R48, R55 to R59) -/

/-- Cases A to E of section 3.7. -/
theorem test_positions :
    sliderPosition [0, 30, 90, 60] = 739 ∧ wheelPosition [50, 0, 0, 0, 0, 80] = 919
      ∧ wheelPosition [70, 0, 0, 0, 0, 40] = 962 ∧ sliderPosition [0, 80, 80, 0, 0] = 384
      ∧ sliderPosition [100, 20, 0] = 85 := by decide

/-- The swipe of section 11.2, and case F. -/
theorem test_swipe :
    sliderPosition [90, 70, 0, 0] = 149 ∧ sliderPosition [35, 95, 50, 0] = 369
      ∧ zonePosition .slider [0, 0, 0, 0] (some 500) = some 500
      ∧ zonePosition .slider [0, 0, 0, 0] none = some 0 := by decide

/-- The wheel of section 3.8. -/
theorem test_wheel_moves :
    moveRecorded .wheel 8 1020 1 = false ∧ moveRecorded .wheel 8 1020 4 = true
      ∧ moveRecorded .wheel 8 4 6 = false := by decide

theorem test_define_zone :
    (Table.read (one (.defineZone 0 1 0 [0]) (panel (electrode .calibrating) none [])).zones 0) =
        some (button none false)
      ∧ (one (.defineZone 0 1 0 [0]) State.reset).port.reply.status = .role := by decide +kernel

theorem test_delete_zone_lifts :
    (one (.deleteZone 0) (panel (electrode .touched) (some (button (some 1) false))
      [record 1 .down])).contacts.map (fun c => c.state) = [.lifted .zoneDeleted 0] := by
  decide +kernel

theorem test_get_zone :
    (one (.getZone 0) (panel (electrode .touched) (some (button none true)) [])).port.reply.payload =
        [0#8, 1#8, 1#8, 0#8, 0#8, 1#8, 1#8, 0#8]
      ∧ (one (.getZone 15) State.reset).port.reply.payload = [15#8, 0#8, 0#8, 0#8, 0#8, 0#8, 0#8] := by
  decide +kernel

/-! ### Contacts (R67, R88 to R99) -/

/-- The id allocation of section 4.10. -/
theorem test_ids_across_the_wrap :
    let live := [254, 1, 7].map fun i => record i .held
    freeId live 254 = 255 ∧ freeId (live ++ [record 255 .down]) 1 = 2
      ∧ freeId (live ++ [record 255 .down, record 2 .down]) 3 = 3 := by decide

/-- The acknowledgement list of section 5.3. -/
theorem test_acknowledgement_list :
    let c5 := { record 5 .held with revision := 6 }
    let c6 := { record 6 (.lifted .released 0) with revision := 2 }
    let r := ackList [(4, 1), (5, 5), (6, 2), (9, 2), (4, 1)] [record 4 .down, c5, c6]
    r.1 = [.done, .newer, .done, .noContact, .done] ∧ r.2.map (fun c => (c.id, c.state)) =
      [(4, .held), (5, .held)] := by decide

/-- The two entries of section 10.5, the second by its state byte. -/
theorem test_contact_entries :
    contactEntry { id := 7, zone := 2, state := .lifted .released 0
                   changes := { appeared := true, moved := false, lifted := true }, revision := 2
                   travel := some { position := 739, reported := 739 }, strength := 95, age := 3 } =
        [0x07#8, 0x02#8, 0x83#8, 0x05#8, 0x02#8, 0x5F#8, 0x00#8, 0x03#8, 0x00#8, 0xE3#8, 0x02#8,
          0x01#8, 0x00#8]
      ∧ (contactEntry (record 1 .down)).length = 9 := by decide

theorem test_reads_of_contacts :
    (one .readContacts (panel (electrode .touched) none [record 1 .down])).port.reply.payload.length = 10
      ∧ (one .readChanges (panel (electrode .touched) none
        [{ record 1 .held with changes := .empty }])).port.reply.payload = [0#8] := by decide +kernel

theorem test_acknowledgement_releases_attn :
    let s := { panel (electrode .touched) (some (button (some 1) false)) [record 1 .down] with
      events := 0#11 }
    (one (.ackContacts [(1, 1)]) s).attn = false
      ∧ (one (.ackContacts [(1, 2)]) s).attn = true := by decide +kernel

/-! ### Measurements and conversions (R110, R118, R122, R123, R189) -/

/-- MEASURE of E20 at level 5 takes 2048 µs (section 6.8). -/
theorem test_measure :
    (one (.measure 20 5) State.reset).converter.map (fun cv => cv.durationUs) = some 2048
      ∧ (one (.measure 33 5) State.reset).port.reply.status = .range := by decide +kernel

/-- A DONE result of 4085 for REF at level 3 (section 10.6). -/
theorem test_measure_result :
    (one .measureResult { State.reset with slot := .done .ref 3 4085 .high }).port.reply.payload =
      [0x03#8, 0x20#8, 0x03#8, 0xF5#8, 0x0F#8, 0x02#8] := by decide +kernel

theorem test_reference_completes :
    let s := scanning (panel (electrode .quiet) none []) .active (.running (firstTurn .active))
      (some (converting .scan .ref false false))
    (one (.conversionComplete 2000) s).converter = some (converting .scan (.channel 0) false false)
      ∧ (one (.conversionComplete 2000) s).reference.baseline = 2000 := by decide +kernel

/-- The tap of section 11.3: the second touch sample makes the record at the round's end. -/
theorem test_round_end_makes_a_contact :
    let e := electrode .arming
    let s := scanning
      (panel { e with dyn := { e.dyn with debounce := 1 } } (some (button none false)) []) .active
      (.running (lastTurn .active)) (some (converting .scan (.channel 0) false false))
    (one (.conversionComplete 1288) s).contacts =
        [{ record 2 .down with strength := 88 }]
      ∧ (one (.conversionComplete 1288) s).scan.counter = 1 := by decide +kernel

/-! ### Timers and HOLD (R120, R124, R148, R161) -/

theorem test_round_timer :
    (one .roundTimerExpiry { State.reset with scan :=
      { Scan.fullReset with mode := .active, roundTimer := .running 20 } }).scan.round =
      .running (firstTurn .active) := by decide +kernel

theorem test_watch_timer :
    (one .watchTimerExpiry { State.reset with scan :=
      { Scan.fullReset with mode := .watch, watchTimer := .running 200 } }).scan.round =
      .running (firstTurn .watch) := by decide +kernel

theorem test_hold_marks_the_conversion :
    (one .holdAssert (one .setModeActive State.reset)).converter =
        some (converting .scan .ref true false)
      ∧ (one .holdAssert (one .setModeActive State.reset)).scan.holdTimer = .running 50 := by
  decide +kernel

theorem test_hold_release_ends_a_hold_wait :
    let s := { State.reset with
      hold := true, scan := { Scan.fullReset with mode := .active, round := .holdWait } }
    (one .holdRelease s).scan.round = .idle
      ∧ (one .holdRelease s).scan.roundTimer = .running 20 := by decide +kernel

theorem test_round_hold_limit :
    let s := one .holdAssert (one .setModeActive State.reset)
    (one .roundHoldLimitExpiry s).scan.round = .holdWait
      ∧ (one .roundHoldLimitExpiry s).events.has .holdTimeout = true := by decide +kernel

theorem test_measure_hold_limit :
    (one .measureHoldLimitExpiry { State.reset with
      hold := true, slot := .queued .ref 7, slotTimer := .running 10 }).slot = .heldOff .ref 7 := by
  decide +kernel

/-! ### Supply and resets (R180 to R183) -/

theorem test_power_on :
    (one .powerOn State.reset).attn = false
      ∧ one (.startUpComplete false) (one .powerOn State.reset) = State.reset := by decide +kernel

theorem test_pin_reset :
    (one (.rstnRise true) (one .rstnLow State.reset)).resetCause = .pin
      ∧ (one (.rstnRise true) (one .rstnLow State.reset)).adselHigh = true := by decide +kernel

theorem test_requested_resets :
    (one .resetFull State.reset).port.executing = true
      ∧ (one .resetScan State.reset).slot = .aborted
      ∧ (one (.resetComplete true) (one .resetFull State.reset)).adselHigh = true
      ∧ (one (.resetComplete true) (one .resetScan State.reset)).adselHigh = false := by
  decide +kernel

/-- A REFERENCE_FAULT raised while a scan reset is in progress is gone when it completes (R107). -/
theorem test_reset_completes_with_reset_done_alone :
    let s := one .resetScan (one .setModeActive State.reset)
    (one (.conversionComplete 0) s).events ≠ .only .resetDone
      ∧ (one (.resetComplete false) (one (.conversionComplete 0) s)).events = .only .resetDone := by
  decide +kernel

theorem test_supply_fall : (one .supplyFall State.reset).power = .unpowered := rfl

/-! ### Witnesses: states and operands that meet the hypotheses of each obligation -/

/-- The part after reset is ready for a request; so is every state below with its power and port. -/
theorem ready_reset : Ready State.reset := ⟨rfl, rfl⟩

/-- With no request in hand any request is taken. -/
theorem takes_idle {s : State} (hp : s.power = .running) (he : s.port.executing = false)
    (c : Instr) : Takes c s := ⟨hp, fun h => by simp [he] at h⟩

theorem takes_reset (c : Instr) : Takes c State.reset := takes_idle rfl rfl c

/-- A request in hand is taken: GET CHANNEL for E5 after its frame, and no other is. -/
theorem takes_the_request_in_hand :
    let s := one (frame 0x4D#8 .stop) State.reset
    s.port.executing = true ∧ Takes (.getChannel 5) s ∧ ¬ Takes .getStatus s := by
  refine ⟨by decide +kernel, ⟨by decide +kernel, fun _ => by decide +kernel⟩, fun h => ?_⟩
  exact absurd (h.2 (by decide +kernel)) (by decide +kernel)

/-- The reset state in WATCH or ACTIVE with its first round's REF conversion in flight. -/
def inRound (mode : ScanMode) (round : RoundState) : State :=
  scanning State.reset mode round (some (converting .scan .ref false false))

/-- The scanning laws hold in `inRound` for a CLOSING round and for a RUNNING one of the mode's kind. -/
theorem inRound_law (mode : ScanMode) (round : RoundState)
    (h : (∃ r, round = .closing r) ∨ (mode = .active ∧ round = .running (firstTurn .active))
      ∨ (mode = .watch ∧ round = .running (firstTurn .watch))) :
    ScanningLaw (inRound mode round) := by
  intro _
  refine ⟨?_, ?_, ?_, ?_, ?_, ?_, ?_⟩
  · intro cv _ hh
    cases hh
  · intro hc
    cases hc
  · intro hc
    cases hc
  · obtain ⟨r, rfl⟩ | ⟨rfl, rfl⟩ | ⟨rfl, rfl⟩ := h <;> simp [RoundWorkLaw, inRound, scanning,
      roundInFlight, converting, State.reset]
  · obtain ⟨r, rfl⟩ | ⟨rfl, rfl⟩ | ⟨rfl, rfl⟩ := h <;> simp [TimerLaw, inRound, scanning,
      State.reset, Scan.fullReset]
  · obtain ⟨r, rfl⟩ | ⟨rfl, rfl⟩ | ⟨rfl, rfl⟩ := h <;> simp [RoundKindLaw, inRound, scanning,
      firstTurn]
  · intro t l hs
    cases hs

/-- The scanning laws hold between rounds in each mode. -/
theorem between_law (mode : ScanMode) : ScanningLaw (scanning State.reset mode .idle none) := by
  intro _
  refine ⟨?_, ?_, ?_, ?_, ?_, ?_, ?_⟩
  · intro cv _ hh
    cases hh
  · intro _
    apply Table.ext_read
    intro i
    simp [scanning, State.reset, Channel.fullReset, ChannelConfig.fullReset, idleDriveOf]
  · intro _ _
    simp [scanning, State.reset]
  · simp [RoundWorkLaw, scanning, State.reset, roundInFlight]
  · simp [TimerLaw, scanning, State.reset, Scan.fullReset]
  · simp [RoundKindLaw, scanning]
  · intro t l hs
    cases hs

theorem witness_CrcOfAnIntactFrameIsZero :
    (1#8).toNat ≤ 64 ∧ [0x05#8].length = (1#8).toNat ∧ 0x4C#8 ≠ crc8 [0x20#8, 0x01#8, 0x05#8] := by
  decide +kernel

theorem witness_StepRunsTheFrontCommand :
    { State.reset with pending := [.identify] }.pending = .identify :: []
      ∧ State.reset.pending = [] := ⟨rfl, rfl⟩

/-- A request of the least and one of the greatest operand length with a count of its own. -/
theorem witness_RequestFrameCarriesItsRequest :
    (WellFormed .identify = true ∧ requestBody .identify ≠ none)
      ∧ (WellFormed (.ackContacts (List.replicate 10 (1, 1))) = true
        ∧ requestBody (.ackContacts (List.replicate 10 (1, 1))) ≠ none) := by
  refine ⟨⟨rfl, ?_⟩, rfl, ?_⟩ <;> simp [requestBody]

theorem witness_FrameThenHandOffIsTheRequest :
    WellFormed (.getChannel 5) = true ∧ requestBody (.getChannel 5) ≠ none ∧ Ready State.reset := by
  refine ⟨rfl, ?_, ready_reset⟩
  simp [requestBody]

/-- A frame for each branch of R168, at the address with ADSEL low. -/
theorem witness_FramesAreJudgedInOrder :
    Ready State.reset ∧ (0x3A#7 = if State.reset.adselHigh then 0x3B#7 else 0x3A#7)
      ∧ 64 < (65#8).toNat ∧ (0x4C#8 ≠ crc8 [0x20#8, 0x01#8, 0x05#8])
      ∧ knownCode 0x06#8 = false ∧ lengthAllowed 0x01#8 1 = false
      ∧ parseRequest 0x04#8 [3#8] = none ∧ lengthAllowed 0x04#8 1 = true
      ∧ parseRequest 0x04#8 [2#8] = some .setModeWatch := by
  refine ⟨ready_reset, ?_⟩
  decide +kernel

theorem witness_TransactionsAtTheAddress :
    (one .powerOn State.reset).power ≠ .running ∧ (one .resetScan State.reset).port.executing = true
      ∧ (0x3B#7 ≠ if State.reset.adselHigh then 0x3B#7 else 0x3A#7)
      ∧ Ready State.reset ∧ (0x3A#7 = if State.reset.adselHigh then 0x3B#7 else 0x3A#7)
      ∧ [0x20#8, 0x01#8] ≠ [] ∧ [0x20#8, 0x01#8].length < 3 := by
  refine ⟨by decide +kernel, by decide +kernel, by decide +kernel, ready_reset, ?_⟩
  decide +kernel

theorem witness_BusTimeoutDiscardsTheTransaction :
    Ready State.reset ∧ (one .rstnLow State.reset).power ≠ .running
      ∧ (one .resetFull State.reset).port.executing = true := by
  refine ⟨ready_reset, ?_⟩
  decide +kernel

/-- The second clause: GET CHANNEL for E5 is in hand, so GET STATUS is not taken. -/
theorem witness_NoRequestIsTakenInBetween :
    requestBody .getStatus ≠ none ∧ (one .supplyFall State.reset).power ≠ .running
      ∧ (let s := one (frame 0x4D#8 .stop) State.reset
        s.port.executing = true ∧ parseFrame s.port.frame ≠ some .getStatus) := by
  refine ⟨?_, ?_⟩
  · simp [requestBody]
  · exact ⟨by rw [show (one .supplyFall State.reset).power = .unpowered from rfl]; decide,
      by decide +kernel⟩

theorem witness_IdentifyReturnsTheFiveItems : Takes .identify State.reset := takes_reset _

theorem witness_GetStatusReturnsTheSnapshot : Takes .getStatus State.reset := takes_reset _

theorem witness_ClearStatusRemovesTheNamedEvents : Takes (.clearStatus 1) State.reset := takes_reset _

/-- A record at the low end of its ranges, and one a step below. -/
theorem witness_SettingsAreReadAndWrittenWhole :
    (∀ c, Takes c State.reset)
      ∧ (SettingsInRange (settingsOf { resetRecord with roundInterval := 5 })
        ∧ resetRecord.idleSenseDrive.toNat ≤ 1)
      ∧ ¬ (SettingsInRange (settingsOf { resetRecord with roundInterval := 4 })
        ∧ resetRecord.idleSenseDrive.toNat ≤ 1) := by
  refine ⟨takes_reset, ⟨?_, by decide⟩, ?_⟩ <;> simp [SettingsInRange, settingsOf, resetRecord]

theorem witness_SetModePausedAbandonsTheRound :
    (Takes .setModePaused State.reset ∧ State.reset.scan.mode = .paused)
      ∧ (let s := scanning State.reset .active .idle none
        Takes .setModePaused s ∧ s.scan.mode ≠ .paused ∧ ScanningLaw s ∧ ∀ cv, ¬ RoundConverts s cv)
      ∧ ∀ round : RoundState,
        round = .running (firstTurn .active) ∨ round = .closing (firstTurn .watch) →
        Takes .setModePaused (inRound .active round) ∧ (inRound .active round).scan.mode ≠ .paused
          ∧ ScanningLaw (inRound .active round)
          ∧ RoundConverts (inRound .active round) (converting .scan .ref false false) := by
  refine ⟨⟨takes_reset _, rfl⟩, ⟨takes_idle rfl rfl _, by decide, between_law _, ?_⟩, ?_⟩
  · rintro cv ⟨h, _⟩
    cases h
  · rintro round (rfl | rfl)
    · exact ⟨takes_idle rfl rfl _, by decide, inRound_law _ _ (.inr (.inl ⟨rfl, rfl⟩)), rfl, rfl, rfl⟩
    · exact ⟨takes_idle rfl rfl _, by decide, inRound_law _ _ (.inl ⟨_, rfl⟩), rfl, rfl, rfl⟩

theorem witness_SetModeActiveStartsARound :
    (Takes .setModeActive (scanning State.reset .active .idle none)
        ∧ (scanning State.reset .active .idle none).scan.mode = .active)
      ∧ (Takes .setModeActive State.reset ∧ State.reset.scan.mode ≠ .active
        ∧ ScanningLaw (scanning State.reset .paused .idle none)
        ∧ scanning State.reset .paused .idle none = State.reset
        ∧ ∀ cv, ¬ RoundConverts State.reset cv)
      ∧ ∀ round : RoundState,
        round = .running (firstTurn .watch) ∨ round = .closing (firstTurn .active) →
        Takes .setModeActive (inRound .watch round) ∧ (inRound .watch round).scan.mode ≠ .active
          ∧ ScanningLaw (inRound .watch round)
          ∧ RoundConverts (inRound .watch round) (converting .scan .ref false false) := by
  refine ⟨⟨takes_idle rfl rfl _, rfl⟩, ⟨takes_reset _, by decide, between_law _, rfl, ?_⟩, ?_⟩
  · rintro cv ⟨h, _⟩
    cases h
  · rintro round (rfl | rfl)
    · exact ⟨takes_idle rfl rfl _, by decide, inRound_law _ _ (.inr (.inr ⟨rfl, rfl⟩)), rfl, rfl, rfl⟩
    · exact ⟨takes_idle rfl rfl _, by decide, inRound_law _ _ (.inl ⟨_, rfl⟩), rfl, rfl, rfl⟩

/-- A state with Z0's BUTTON having a current contact, and one with it pending, refuse WATCH; the
others accept it. -/
theorem witness_SetModeWatchIsRefusedOrEnters :
    (Takes .setModeWatch (scanning State.reset .watch .idle none)
        ∧ (scanning State.reset .watch .idle none).scan.mode = .watch)
      ∧ (∀ z, z = button (some 1) false ∨ z = button none true →
        let s := { State.reset with zones := Table.write (Table.const 16 none) 0 (some z) }
        Takes .setModeWatch s ∧ s.scan.mode ≠ .watch
          ∧ ∃ i z, Table.read s.zones i = some z ∧ (z.current ≠ none ∨ z.pending = true))
      ∧ (∀ i z, Table.read State.reset.zones i = some z → z.current = none ∧ z.pending = false)
      ∧ (let s := scanning State.reset .active .idle none
        Takes .setModeWatch s ∧ s.scan.mode ≠ .watch ∧ ScanningLaw s ∧ ∀ cv, ¬ RoundConverts s cv)
      ∧ ∀ round : RoundState,
        round = .running (firstTurn .active) ∨ round = .closing (firstTurn .watch) →
        Takes .setModeWatch (inRound .active round) ∧ (inRound .active round).scan.mode ≠ .watch
          ∧ ScanningLaw (inRound .active round)
          ∧ RoundConverts (inRound .active round) (converting .scan .ref false false) := by
  refine ⟨⟨takes_idle rfl rfl _, rfl⟩, ?_, ?_, ⟨takes_idle rfl rfl _, by decide, between_law _, ?_⟩, ?_⟩
  · rintro z (rfl | rfl) <;> refine ⟨takes_idle rfl rfl _, by decide, 0, _, Table.read_write_same _ _ _, ?_⟩ <;>
      simp [button]
  · intro i z h
    simp [State.reset] at h
  · rintro cv ⟨h, _⟩
    cases h
  · rintro round (rfl | rfl)
    · exact ⟨takes_idle rfl rfl _, by decide, inRound_law _ _ (.inr (.inl ⟨rfl, rfl⟩)), rfl, rfl, rfl⟩
    · exact ⟨takes_idle rfl rfl _, by decide, inRound_law _ _ (.inl ⟨_, rfl⟩), rfl, rfl, rfl⟩

theorem witness_ChannelAndZoneRecordsAreReadWhole :
    (∀ c, Takes c State.reset) ∧ 31 < (32#8).toNat ∧ 15 < (16#8).toNat := ⟨takes_reset, by decide, by decide⟩

/-- The operands of section 11.1, and a release threshold that reaches the touch threshold. -/
theorem witness_SetChannelWritesAndRecalibrates :
    (∀ c, Takes c State.reset)
      ∧ (fields.level.toNat ≤ 7 ∧ 1 ≤ fields.touchThreshold.toNat
        ∧ fields.touchThreshold.toNat ≤ 1023
        ∧ fields.releaseThreshold.toNat < fields.touchThreshold.toNat
        ∧ fields.referenceWeight.toNat ≤ 16 ∧ fields.watchFlag.toNat ≤ 1
        ∧ 1 ≤ fields.debounceIn.toNat ∧ fields.debounceIn.toNat ≤ 15
        ∧ 1 ≤ fields.debounceOut.toNat ∧ fields.debounceOut.toNat ≤ 15)
      ∧ fields.touchThreshold.toNat ≤
        ({ fields with releaseThreshold := 60 } : ChannelOperands).releaseThreshold.toNat :=
  ⟨takes_reset, by decide, by decide⟩

theorem witness_SetRoleFollowsTheTable :
    ((∀ c, Takes c State.reset) ∧ 31 < (32#8).toNat ∧ 3 < (4#8).toNat)
      ∧ (let s := panel (electrode .quiet) (some (button none false)) []
        (∀ c, Takes c s) ∧ (∃ k z, Table.read s.zones k = some z ∧ (0 : Fin 32) ∈ z.members)
          ∧ Role.guard ≠ .sense ∧ ¬ Role.sense ≠ .sense)
      ∧ State.reset.converter = none
      ∧ (inRound .active .idle).converter = some (converting .scan .ref false false) := by
  refine ⟨⟨takes_reset, by decide, by decide⟩, ⟨takes_idle rfl rfl, ?_, by decide, by decide⟩, rfl, rfl⟩
  exact ⟨0, button none false, Table.read_write_same _ _ _, by simp [button]⟩

theorem witness_CalibrateRestartsTheNamedChannels :
    (∀ c, Takes c State.reset) ∧ 1 < (2#8).toNat ∧ (1#8).toNat ≤ 1 := ⟨takes_reset, by decide, by decide⟩

/-- An operand list out of range, and a state for each row of R48. -/
theorem witness_DefineZoneChecksInOrder :
    ((∀ c, Takes c State.reset) ∧ 1 ≤ [(0 : Byte)].length ∧ [(0 : Byte)].length ≤ 8 ∧ 15 < (16#8).toNat)
      ∧ ((1 ≤ [(0 : Fin 32)].length ∧ [(0 : Fin 32)].length ≤ 4) ∧ [(0 : Fin 32)].Nodup)
      ∧ Table.read (panel (electrode .quiet) (some (button none false)) []).zones 0 ≠ none
      ∧ (∃ m ∈ [(0 : Fin 32)], (Table.read State.reset.channels m).config.role ≠ .sense)
      ∧ (let s := panel (electrode .quiet) (some (button none false)) []
        Table.read s.zones 1 = none ∧ ∃ k z, Table.read s.zones k = some z ∧ (0 : Fin 32) ∈ z.members)
      ∧ Table.read (panel (electrode .quiet) none []).zones 0 = none := by
  refine ⟨⟨takes_reset, by decide, by decide, by decide⟩, by decide, by decide +kernel, ?_,
    ⟨by decide +kernel, ?_⟩, by decide +kernel⟩
  · exact ⟨0, by simp, by decide +kernel⟩
  · exact ⟨0, button none false, Table.read_write_same _ _ _, by simp [button]⟩

theorem witness_DeleteZoneLiftsItsContact :
    (∀ c, Takes c State.reset) ∧ 15 < (16#8).toNat ∧ Table.read State.reset.zones 0 = none
      ∧ Table.read (panel (electrode .touched) (some (button (some 1) false))
        [record 1 .down]).zones 0 = some (button (some 1) false) :=
  ⟨takes_reset, by decide, by decide +kernel, by decide +kernel⟩

theorem witness_ContactsAreReadInListOrder :
    (∀ c, Takes c State.reset) ∧ (List.replicate 10 (record 1 .down)).length ≤ 10 := ⟨takes_reset, by decide⟩

/-- Lists of 1 and of 10 pairs; a table with a record for each outcome. -/
theorem witness_AckContactsProcessesPairsInOrder :
    (∀ c, Takes c State.reset) ∧ 1 ≤ [((1 : Byte), (1 : Byte))].length
      ∧ (List.replicate 10 ((1 : Byte), (1 : Byte))).length ≤ 10
      ∧ (let cs := [record 1 .down, record 2 (.lifted .released 0)]
        (cs.map fun c => c.id).Nodup ∧ (∀ c ∈ cs, c.id ≠ 3)
          ∧ (record 1 .down).revision ≠ 2 ∧ (record 1 .down).revision = 1
          ∧ (record 1 .down).state.isLifted = false
          ∧ (record 2 (.lifted .released 0)).state.isLifted = true) :=
  ⟨takes_reset, by decide, by decide, by decide⟩

theorem witness_MeasureQueuesOrConverts :
    ((∀ c, Takes c State.reset) ∧ 32 < (33#8).toNat ∧ 7 < (8#8).toNat)
      ∧ (let s := { State.reset with slot := Slot.queued .ref 7 }
        (∀ c, Takes c s) ∧ (32#8).toNat ≤ 32 ∧ (7#8).toNat ≤ 7
          ∧ ∃ t l, s.slot = .queued t l ∨ s.slot = .converting t l)
      ∧ (∀ t l, State.reset.slot ≠ .queued t l ∧ State.reset.slot ≠ .converting t l)
      ∧ (State.reset.converter = none ∧ State.reset.hold = false)
      ∧ ¬ ((inRound .active .idle).converter = none ∧ (inRound .active .idle).hold = false) := by
  refine ⟨⟨takes_reset, by decide, by decide⟩, ⟨takes_idle rfl rfl, by decide, by decide, .ref, 7, .inl rfl⟩,
    ?_, ⟨rfl, rfl⟩, ?_⟩
  · intro t l
    constructor <;> intro h <;> cases h
  · rintro ⟨h, _⟩
    cases h

theorem witness_MeasureResultReturnsTheSlot : Takes .measureResult State.reset := takes_reset _

/-- A kept and a held conversion that find the slot CONVERTING, and one that finds it HELD_OFF, each with
a scan claim waiting or none. -/
theorem witness_HostConversionEndsInItsSlot (held : Bool) (claim : Option Target) :
    (let s := { scanning State.reset .paused .idle (some (converting .host .ref held false)) with
        slot := .converting .ref 3, scanClaim := claim }
     blocksRun s = true ∧ s.converter = some (converting .host .ref held false)
       ∧ (converting .host .ref held false).claimant = .host ∧ s.slot = .converting .ref 3
       ∧ (converting .host .ref held false).held = held ∧ s.scanClaim = claim)
      ∧ (let s := { scanning State.reset .paused .idle (some (converting .host .ref true false)) with
          slot := .heldOff .ref 3 }
        blocksRun s = true ∧ s.converter = some (converting .host .ref true false)
          ∧ ∀ target level, s.slot ≠ .converting target level) :=
  ⟨⟨rfl, rfl, rfl, rfl, rfl, rfl⟩, rfl, rfl, fun _ _ h => by cases h⟩

/-- A round of a kind in its mode with E0's conversion in flight, E0 and E1 being SENSE and watched. -/
def inTurn (mode : ScanMode) (kind : RoundKind) (state : ChannelState) (held roleLost hold : Bool) :
    State :=
  let e := electrode state
  let watched := { e with config := { e.config with watch := true } }
  let s := panel watched none []
  { scanning s mode (.running (lastTurn kind))
      (some (converting .scan (.channel 0) held roleLost)) with
    channels := Table.write s.channels 1 watched, hold := hold }

/-- E1 has the turn after E0, under HOLD or with it released, with a measurement waiting or not. -/
theorem witness_KeptSampleTakesTheNextTurn (hold waits : Bool) :
    let slot : Slot := if waits then .queued .ref 3 else .none
    let s := { inTurn .active .active .quiet false false hold with slot := slot }
    blocksRun s = true ∧ RoundConverts s (converting .scan (.channel 0) false false)
      ∧ s.scan.round = .running (lastTurn .active) ∧ s.hold = hold ∧ s.slot = slot
      ∧ NextTurn (lastTurn .active) (Table.write s.channels 0
        { Table.read s.channels 0 with
          dyn := (sampleEvent s.settings s.reference.offset (1200#12).toNat
            (Table.read s.channels 0)).dyn }) 1 := by
  refine ⟨rfl, ⟨rfl, rfl, rfl⟩, rfl, rfl, rfl, nextChannel_eq_some.mp ?_⟩
  cases hold <;> cases waits <;> decide +kernel

/-- A held REF, a held E0 that still qualifies, a held E0 in FAULT, and an E0 that lost its role, each
under HOLD and with HOLD released; and a conversion that a hold timeout left behind. -/
theorem witness_DiscardedConversionIsRepeatedOrPassed (hold : Bool) :
    (let s := { inRound .active (.running (firstTurn .active)) with
        converter := some (converting .scan .ref true false), hold := hold }
     blocksRun s = true ∧ RoundConverts s (converting .scan .ref true false)
       ∧ s.scan.round = .running (firstTurn .active) ∧ s.hold = hold)
      ∧ (let s := inTurn .active .active .quiet true false hold
        blocksRun s = true ∧ RoundConverts s (converting .scan (.channel 0) true false)
          ∧ s.hold = hold ∧ Qualifies .active (Table.read s.channels 0))
      ∧ (let s := { inTurn .active .active .quiet true false hold with
          channels := Table.write (inTurn .active .active .quiet true false hold).channels 0
            (electrode .fault) }
        RoundConverts s (converting .scan (.channel 0) true false)
          ∧ ¬ Qualifies .active (Table.read s.channels 0)
          ∧ NextTurn (lastTurn .active) s.channels 1)
      ∧ (let s := inTurn .active .active .quiet false true hold
        RoundConverts s (converting .scan (.channel 0) false true)
          ∧ NextTurn (lastTurn .active) s.channels 1)
      ∧ (let cv := { converting .scan (.channel 0) true false with ofRound := false }
        let s := { State.reset with converter := some cv, hold := hold }
        blocksRun s = true ∧ s.converter = some cv ∧ cv.claimant = .scan ∧ cv.ofRound = false
          ∧ cv.held = true) := by
  cases hold <;>
  · refine ⟨⟨rfl, ⟨rfl, rfl, rfl⟩, rfl, rfl⟩,
      ⟨rfl, ⟨rfl, rfl, rfl⟩, rfl, (qualifies_iff _ _).mp (by decide +kernel)⟩,
      ⟨⟨rfl, rfl, rfl⟩, mt (qualifies_iff _ _).mpr (by decide +kernel),
        nextChannel_eq_some.mp (by decide +kernel)⟩,
      ⟨⟨rfl, rfl, rfl⟩, nextChannel_eq_some.mp (by decide +kernel)⟩, rfl, rfl, rfl, rfl, rfl⟩

/-- A count for each of the five cases. -/
theorem witness_ReferenceSampleHasFiveCases :
    let r := Reference.mk .set 2000 0 6
    15 ≤ 15 ∧ 4080 ≤ 4080 ∧ Reference.afterReset.state = .unset ∧ r.state ≠ .unset
      ∧ (-(200 : Int) ≤ 2200 - 2000 ∧ (2200 : Int) - 2000 ≤ 200)
      ∧ ¬ ((2201 : Int) - 2000 ≤ 200) ∧ r.noiseCount + 1 < 8 ∧ ¬ (7 + 1 < 8) := by decide

/-- A REF count out of range makes a noise round; one in range proceeds to E0. The round timer runs or is
EXPIRED. -/
theorem witness_VerdictMovesTheRound (late : Bool) :
    let timer : Timer := if late then .expired else .running 20
    let s0 := scanning (panel (electrode .quiet) none []) .active (.running (firstTurn .active))
      (some (converting .scan .ref false false))
    let s := { s0 with scan := { s0.scan with roundTimer := timer } }
    blocksRun s = true ∧ RoundConverts s (converting .scan .ref false false)
      ∧ s.scan.round = .running (firstTurn .active) ∧ RoundKindLaw s ∧ s.scan.roundTimer = timer
      ∧ (judgeReference s.settings (15#12).toNat s.reference).verdict = .noise
      ∧ (judgeReference s.settings (16#12).toNat s.reference).verdict = .proceed
      ∧ NextTurn (firstTurn .active) s.channels 0 := by
  refine ⟨rfl, ⟨rfl, rfl, rfl⟩, rfl, ?_, rfl, ?_⟩
  · intro r h
    cases h
    exact ⟨fun _ => rfl, fun h => by cases h⟩
  · rw [← nextChannel_eq_some]
    cases late <;> decide +kernel

/-- A CLOSING round in each mode, the watch timer as given. -/
theorem witness_ClosingRoundEndsByAbandonment (mode : ScanMode) (timer : Timer) :
    let s0 := inRound mode (.closing (firstTurn .active))
    let s := { s0 with scan := { s0.scan with watchTimer := timer } }
    blocksRun s = true ∧ RoundConverts s (converting .scan .ref false false)
      ∧ s.scan.round = .closing (firstTurn .active) ∧ s.scan.mode = mode
      ∧ s.scan.watchTimer = timer :=
  ⟨rfl, ⟨rfl, rfl, rfl⟩, rfl, rfl, rfl⟩

/-- E1's conversion in flight as the last of a round, with the timer of the mode as given. -/
def lastConversion (mode : ScanMode) (kind : RoundKind) (state : ChannelState) (timer : Timer) : State :=
  let s := inTurn mode kind state false false false
  { s with
    converter := some (converting .scan (.channel 1) false false)
    scan := { s.scan with
      round := .running { kind := kind, phase := .channels, last := some 1 }
      roundTimer := timer
      watchTimer := timer } }

/-- The last outcomes of a round: E1's kept count, E1's count discarded with its role lost, and a kept
reference count with no SENSE channel; the round timer runs or is EXPIRED. -/
theorem witness_ActiveRoundEndIsResolved (timer : Timer)
    (ht : timer = .expired ∨ timer = .running 20) :
    let r : Round := { kind := .active, phase := .channels, last := some 1 }
    (let s := lastConversion .active .active .quiet timer
     blocksRun s = true ∧ s.scan.mode = .active ∧ s.scan.roundTimer = timer
       ∧ LastOutcome (1200#12).toNat r s (applySample 1 (1200#12).toNat s))
      ∧ (let s := { lastConversion .active .active .quiet timer with
          converter := some (converting .scan (.channel 1) false true) }
        LastOutcome (1200#12).toNat r s s)
      ∧ (let s := inRound .active (.running (firstTurn .active))
        LastOutcome (2000#12).toNat (firstTurn .active) s (applyReference (2000#12).toNat s)) := by
  refine ⟨⟨rfl, rfl, rfl, rfl, ?_, _, ⟨rfl, rfl, rfl⟩, .inl ⟨rfl, rfl, rfl⟩⟩,
    ⟨rfl, ?_, _, ⟨rfl, rfl, rfl⟩, .inr ⟨.inl rfl, rfl⟩⟩,
    rfl, ?_, _, ⟨rfl, rfl, rfl⟩, rfl, ?_, rfl⟩
  · refine nextChannel_eq_none.mp ?_
    obtain rfl | rfl := ht <;> decide +kernel
  · refine nextChannel_eq_none.mp ?_
    obtain rfl | rfl := ht <;> decide +kernel
  · refine nextChannel_eq_none.mp ?_
    decide +kernel
  · decide +kernel

/-- With E0 and E1 TOUCHED the part wakes; with both QUIET it does not. -/
theorem witness_WatchRoundEndWakes :
    let r : Round := { kind := .watch, phase := .channels, last := some 1 }
    (let s := lastConversion .watch .watch .touched .stopped
     let u := applySample 1 (1290#12).toNat s
     blocksRun s = true ∧ s.scan.mode = .watch ∧ LastOutcome (1290#12).toNat r s u
       ∧ watchedTouched u = true)
      ∧ (let s := lastConversion .watch .watch .quiet .expired
        let u := applySample 1 (1200#12).toNat s
        LastOutcome (1200#12).toNat r s u ∧ watchedTouched u = false) := by
  refine ⟨⟨rfl, rfl, ⟨rfl, ?_, _, ⟨rfl, rfl, rfl⟩, .inl ⟨rfl, rfl, rfl⟩⟩, ?_⟩,
    ⟨rfl, ?_, _, ⟨rfl, rfl, rfl⟩, .inl ⟨rfl, rfl, rfl⟩⟩, ?_⟩
  · refine nextChannel_eq_none.mp ?_
    decide +kernel
  · decide +kernel
  · refine nextChannel_eq_none.mp ?_
    decide +kernel
  · decide +kernel

/-- The reset state in a mode with a round state, a waiting claim, HOLD and timers. -/
def timed (mode : ScanMode) (round : RoundState) (claim : Option Target) (hold : Bool)
    (roundTimer watchTimer : Timer) (holdTimer : HoldTimer) : State :=
  { State.reset with
    hold := hold
    scanClaim := claim
    scan := { Scan.fullReset with
      mode := mode, round := round, roundTimer := roundTimer, watchTimer := watchTimer
      holdTimer := holdTimer } }

/-- Between rounds in each mode with its timer running, and a RUNNING round whose claim waits behind
HOLD. -/
theorem witness_TimerExpiryStartsARound :
    (let s := timed .active .idle none false (.running 20) .stopped .stopped
     blocksRun s = true ∧ ScanningLaw s ∧ s.scan.roundTimer = .running 20
       ∧ s.scan.mode = .active ∧ s.scan.round = .idle)
      ∧ (let s := timed .active (.running (firstTurn .active)) (some .ref) true (.running 20)
          .stopped (.running 50)
        blocksRun s = true ∧ ScanningLaw s ∧ s.scan.roundTimer = .running 20
          ∧ s.scan.round ≠ .idle)
      ∧ (let s := timed .watch .idle none false .stopped (.running 200) .stopped
        blocksRun s = true ∧ ScanningLaw s ∧ s.scan.watchTimer = .running 200
          ∧ s.scan.mode = .watch ∧ s.scan.round = .idle)
      ∧ (let s := timed .watch (.running (firstTurn .watch)) (some .ref) true .stopped
          (.running 200) (.running 50)
        blocksRun s = true ∧ ScanningLaw s ∧ s.scan.watchTimer = .running 200
          ∧ s.scan.round ≠ .idle) := by
  have pins : State.reset.drive = idlePins State.reset.channels := by decide +kernel
  refine ⟨⟨rfl, fun _ => ⟨?_, fun _ => pins, ?_, ?_, ?_, ?_, ?_⟩, rfl, rfl, rfl⟩,
    ⟨rfl, fun _ => ⟨?_, fun _ => pins, ?_, ?_, ?_, ?_, ?_⟩, rfl, ?_⟩,
    ⟨rfl, fun _ => ⟨?_, fun _ => pins, ?_, ?_, ?_, ?_, ?_⟩, rfl, rfl, rfl⟩,
    rfl, fun _ => ⟨?_, fun _ => pins, ?_, ?_, ?_, ?_, ?_⟩, rfl, ?_⟩ <;>
  simp [HeldLaw, ArbiterLaw, RoundWorkLaw, TimerLaw, RoundKindLaw, SlotLaw, timed, State.reset,
    Scan.fullReset, firstTurn, roundInFlight]

/-- HOLD released and asserted, with a REF claim, a channel claim and a measurement waiting. -/
theorem witness_HoldEdgesActAtTheBlocks (claim : Option Target) (slot : Slot) :
    (blocksRun State.reset = true ∧ State.reset.hold = false)
      ∧ (let s := { State.reset with hold := true, scanClaim := claim, slot := slot }
        blocksRun s = true ∧ s.hold = true ∧ s.scanClaim = claim ∧ s.slot = slot)
      ∧ (one .supplyFall State.reset).power = .unpowered ∧ (one .rstnLow State.reset).power = .pinReset
      ∧ (one .powerOn State.reset).power = .powerOnReset false :=
  ⟨⟨rfl, rfl⟩, ⟨rfl, rfl, rfl, rfl⟩, rfl, rfl, rfl⟩

theorem witness_HoldLimitsExpire :
    (let s := one .holdAssert (one .setModeActive State.reset)
     blocksRun s = true ∧ s.scan.holdTimer = .running 50
       ∧ s.scan.round = .running (firstTurn .active))
      ∧ (let s := { State.reset with slot := .queued .ref 3, slotTimer := .running 50 }
        blocksRun s = true ∧ s.slotTimer = .running 50 ∧ s.slot = .queued .ref 3) :=
  ⟨by decide +kernel, rfl, rfl, rfl⟩

theorem witness_PowerOnResetRuns (low : Bool) :
    { one .powerOn State.reset with rstnLow := low }.power = .powerOnReset false
      ∧ { one .powerOn State.reset with rstnLow := low }.rstnLow = low := ⟨rfl, rfl⟩

theorem witness_PinResetRuns :
    blocksRun State.reset = true
      ∧ ((one .rstnLow State.reset).rstnLow = true ∧ (one .rstnLow State.reset).power = .pinReset)
      ∧ (let s := { one .powerOn State.reset with rstnLow := true, power := .powerOnReset true }
        s.rstnLow = true ∧ s.power = .powerOnReset true)
      ∧ (one .supplyFall State.reset).power = .unpowered
      ∧ (one .powerOn State.reset).power = .powerOnReset false :=
  ⟨rfl, ⟨rfl, rfl⟩, ⟨rfl, rfl⟩, rfl, rfl⟩

theorem witness_ResetFullResetsEveryBlock : Takes .resetFull State.reset := takes_reset _

/-- The three modes of a scan reset, and ACTIVE under HOLD. -/
theorem witness_ResetScanKeepsTheConfiguration (mode : ScanMode) (hold : Bool) :
    let s := { scanning State.reset mode .idle none with hold := hold }
    Takes .resetScan s ∧ s.scan.mode = mode ∧ s.hold = hold := ⟨takes_idle rfl rfl _, rfl, rfl⟩

theorem witness_RequestedResetCompletes :
    (one .resetFull State.reset).power = .requestedReset .full
      ∧ (one .resetScan State.reset).power = .requestedReset .scan := by decide +kernel

/-- E0 in QUIET with its first and its third out-of-range sample, at each limit. -/
theorem witness_OutOfRangeSamplesLeadToFault (count : Nat) (h : count = 0 ∨ count = 2) :
    let e := electrode .quiet
    let s := panel { e with dyn := { e.dyn with outOfRange := count } } none []
    (Table.read s.channels 0).dyn.state ≠ .off ∧ (Table.read s.channels 0).dyn.state ≠ .fault
      ∧ (Table.read s.channels 0).dyn.outOfRange = count ∧ 15 ≤ 15 ∧ 4080 ≤ 4080 := by
  obtain rfl | rfl := h <;> decide +kernel

/-- In-range counts at both ends, and a channel in each state of the table. -/
theorem witness_TouchTableIsFollowed :
    15 < 16 ∧ 4079 < 4080
      ∧ ((electrode .quiet).dyn.state = .quiet ∧ (electrode .quiet).dyn.onTime = 0)
      ∧ ((electrode .arming).dyn.state = .arming ∧ (electrode .arming).dyn.onTime = 0)
      ∧ (electrode .touched).dyn.state = .touched ∧ (electrode .releasing).dyn.state = .releasing
      ∧ min 65535 ((electrode .touched).dyn.onTime + 1) < Settings.fullReset.maxOn := by decide

/-- A settings record and a channel for each mechanism, one for each clause that keeps the baseline, and
a command that changes none. -/
theorem witness_BaselineMechanisms :
    (let d := { (electrode .calibrating).dyn with samplesTaken := 7 }
     d.state = .calibrating ∧ 8 ≤ d.samplesTaken + 1)
      ∧ (electrode .calibrating).dyn.samplesTaken + 1 < 8
      ∧ ((electrode .quiet).dyn.state = .quiet
        ∧ (correctedCount 0 16 1205 : Int) - 1200 < 60 ∧ -(40 : Int) < correctedCount 0 16 1205 - 1200
        ∧ (electrode .quiet).dyn.driftCount + 1 < 16 ∧ 1 ≤ (electrode .quiet).dyn.driftCount + 1)
      ∧ ((correctedCount 0 16 1160 : Int) - 1200 ≤ -(40 : Int)
        ∧ (electrode .quiet).dyn.invertedCount + 1 < 5 ∧ 1 ≤ (electrode .quiet).dyn.invertedCount + 1)
      ∧ ((electrode .touched).dyn.state = .touched ∧ 1 ≠ 0
        ∧ 1 ≤ min 65535 ((electrode .touched).dyn.onTime + 1))
      ∧ (60 : Int) ≤ (correctedCount 0 16 1260 : Int) - 1200
      ∧ (electrode .arming).dyn.state = .arming
      ∧ ((electrode .releasing).dyn.state = .releasing
        ∧ min 65535 ((electrode .releasing).dyn.onTime + 1) < 1500)
      ∧ ∃ t, exec (.calibrate 1#32 0#8) State.reset = .next t := by
  refine ⟨by decide, by decide, by decide, by decide, by decide, by decide, by decide, by decide, _, rfl⟩

/-- Contributions of a slider and of a wheel, and the least slider with a finger. -/
theorem witness_PositionsFollowTheFormula :
    2 ≤ [1, 0].length ∧ threePointSum .slider [1, 0] ≠ 0
      ∧ 2 ≤ [50, 0, 0, 0, 0, 80].length ∧ threePointSum .wheel [50, 0, 0, 0, 0, 80] ≠ 0
      ∧ (1 : Nat) ≤ 1 ∧ 0 < 1
      ∧ [0, 0] ≠ [] ∧ (∀ x ∈ [0, 0], x = 0) ∧ ∃ x ∈ [1, 0], x ≠ 0 := by decide

/-- A zone in each case of R77. -/
theorem witness_ZoneResolutionCases (state : ChannelState) (z : Zone) (cs : List Contact) :
    Table.read (panel (electrode state) (some z) cs).zones 0 = some z
      ∧ Table.read State.reset.zones 0 = none
      ∧ (zoneTouched (panel (electrode .touched) none []).channels (button none false) = true
        ∧ zoneTouched (panel (electrode .quiet) none []).channels (button none true) = false)
      ∧ (button (some 1) false).current = some 1 ∧ (button none true).current = none
      ∧ ([] : List Contact).length < 10 ∧ 10 ≤ (List.replicate 10 (record 1 .held)).length := by
  refine ⟨Table.read_write_same _ _ _, by decide +kernel, ?_⟩
  decide +kernel

theorem witness_ContactUpdateTestsTheMove :
    let z : Zone := { button (some 1) false with kind := .slider, members := [0, 1] }
    let c := { record 1 .held with travel := some { position := 149, reported := 149 } }
    z.kind ≠ .button ∧ c.travel = some { position := 149, reported := 149 }
      ∧ (button (some 1) false).kind = .button
      ∧ (newContact State.reset.channels 1 0 z).travel = some { position := 0, reported := 0 } := by
  decide +kernel

theorem witness_FreeIdIsCarriedByNoRecord :
    ([254, 1, 7].map fun i => record i .held).length < 10 ∧ (1 : Nat) ≤ 254 ∧ 254 ≤ 255
      ∧ ∀ c ∈ [254, 1, 7].map fun i => record i .held, c.id ≠ 2 := by decide

/-- After CLEAR STATUS the law of ATTN holds with ATTN released, and a step goes on. -/
theorem witness_StepKeepsAttnLaw :
    let s := { State.reset with pending := [.clearStatus 1] }
    AttnLaw s ∧ ∃ t, step s = .next t := ⟨attnWanted_iff State.reset, _, rfl⟩

/-- The laws of the table hold for the reset state's channels, and SET ROLE is taken. -/
theorem witness_StepKeepsChannelTableLaw :
    let s := { State.reset with pending := [.setRole 0 1] }
    ChannelTableLaw s ∧ ∃ t, step s = .next t := by
  refine ⟨⟨?_, fun i => ?_⟩, _, rfl⟩
  · simp [SettingsInRange, State.reset, Settings.fullReset]
  · simp [State.reset, ChannelLaw, Channel.fullReset, ConfigInRange, DynamicsInRange, CountsBelong,
      OffOutsideSense, ChannelConfig.fullReset, ChannelDynamics.cleared]

theorem witness_StepKeepsMembershipLaw :
    let s := { State.reset with pending := [.defineZone 0 1 0 [0]] }
    MembershipLaw s ∧ ∃ t, step s = .next t := by
  refine ⟨?_, _, rfl⟩
  simp [MembershipLaw, State.reset]

theorem witness_StepKeepsContactTableLaw :
    let s := { State.reset with contacts := [record 1 .down], pending := [.ackContacts [(1, 1)]] }
    ContactTableLaw s ∧ ∃ t, step s = .next t := by
  refine ⟨?_, _, rfl⟩
  simp [ContactTableLaw, State.reset, record, StateShowsChange]

/-- E0's BUTTON with its current contact in the table, and DELETE ZONE taken. -/
theorem witness_StepKeepsCurrentContactLaw :
    let s := { panel (electrode .touched) (some (button (some 1) false)) [record 1 .down] with
      pending := [.deleteZone 0] }
    ContactTableLaw s ∧ CurrentContactLaw s ∧ ∃ t, step s = .next t := by
  refine ⟨?_, ⟨?_, ?_, ?_⟩, _, rfl⟩
  · simp [ContactTableLaw, panel, record, StateShowsChange]
  · intro i z id hz hc
    simp only [panel, Table.read_write, Table.read_const] at hz
    split at hz
    · rename_i hi
      cases hz
      cases hc
      exact ⟨record 1 .down, by simp [panel], rfl, hi, rfl⟩
    · cases hz
  · intro c hc _
    simp only [panel, List.mem_singleton] at hc
    subst hc
    exact ⟨_, Table.read_write_same _ _ _, rfl⟩
  · intro i z hz hp
    simp only [panel, Table.read_write, Table.read_const] at hz
    split at hz <;> cases hz
    cases hp

theorem witness_StepKeepsScanningLaw :
    let s := { inRound .active (.running (firstTurn .active)) with
      pending := [.conversionComplete 2000] }
    ScanningLaw s ∧ ∃ t, step s = .next t :=
  ⟨inRound_law .active (.running (firstTurn .active)) (.inr (.inl ⟨rfl, rfl⟩)), _, rfl⟩

theorem witness_OnlyTheseChangeContacts :
    let s := panel (electrode .touched) (some (button (some 1) false)) [record 1 .down]
    ∃ t, exec (.ackContacts [(1, 1)]) s = .next t ∧ t.contacts ≠ s.contacts := by
  refine ⟨_, rfl, ?_⟩
  decide +kernel

theorem witness_OnlyTheseChangeTheRoundCounter :
    ∃ t, exec (.conversionComplete 15) (inRound .active (.running (firstTurn .active))) = .next t
      ∧ t.scan.counter = 1 := by
  refine ⟨_, rfl, ?_⟩
  decide +kernel

end Sys2Proof.Tests
end

section
/-! PROOFS. The update of a contact by its zone: the position, the move test and the creation of a
record (R59, R78, R79). -/

namespace Sys2Proof.Machine

/-- A slider and a wheel form a position at every resolution (R55 to R58). -/
theorem exists_zonePosition {kind : ZoneKind} (h : kind ≠ .button) (d : List Nat)
    (previous : Option Nat) : ∃ p, zonePosition kind d previous = some p := by
  cases kind with
  | button => exact absurd rfl h
  | slider => exact ⟨_, rfl⟩
  | wheel => exact ⟨_, rfl⟩

/-- The distance on a slider is the size of the difference, on a wheel the shorter way round (R59). -/
theorem moveDistance_eq {kind : ZoneKind} (h : kind ≠ .button) (a b : Nat) :
    moveDistance kind a b =
      if kind = .wheel then min (max a b - min a b) (1024 - (max a b - min a b))
      else max a b - min a b := by
  cases kind with
  | button => exact absurd rfl h
  | slider => rfl
  | wheel => rfl

/-- The move test passes when the distance is not 0 and reaches the threshold (R59). -/
theorem moveRecorded_iff (kind : ZoneKind) (threshold reported position : Nat) :
    moveRecorded kind threshold reported position = true ↔
      moveDistance kind reported position ≠ 0
        ∧ threshold ≤ moveDistance kind reported position := by
  simp [moveRecorded]

/-- Where the zone forms no position, the strength alone follows the zone (R78). -/
theorem updateByZone_of_no_position {channels : Vector Channel 32} {z : Zone}
    (h : ∀ previous, zonePosition z.kind (contributions channels z) previous = none)
    (c : Contact) :
    updateByZone channels z c = { c with strength := strengthOf (contributions channels z) } := by
  unfold updateByZone
  cases c.travel with
  | none => rfl
  | some t => simp only [h]

/-- Where the zone forms the position `p`, the position becomes `p`, and `p` is reported exactly when
the move test passes (R59, R78). -/
theorem updateByZone_of_position {channels : Vector Channel 32} {z : Zone} {c : Contact}
    {t : Travel} {p : Nat} (ht : c.travel = some t)
    (hp : zonePosition z.kind (contributions channels z) (some t.position) = some p) :
    updateByZone channels z c =
      if moveRecorded z.kind z.moveThreshold t.reported p then
        { c with
          strength := strengthOf (contributions channels z)
          travel := some { position := p, reported := p }
          changes := { c.changes with moved := true }
          revision := (c.revision + 1) % 256 }
      else
        { c with
          strength := strengthOf (contributions channels z)
          travel := some { position := p, reported := t.reported } } := by
  simp only [updateByZone, ht, hp]
  rfl

/-- The change set of a new record holds APPEARED alone (R79). -/
theorem newContact_changes (channels : Vector Channel 32) (id : Nat) (i : Fin 16) (z : Zone) :
    (newContact channels id i z).changes = { appeared := true, moved := false, lifted := false } :=
  rfl

/-- The position and the reported position of a new record are the zone's position (R79). -/
theorem newContact_travel (channels : Vector Channel 32) (id : Nat) (i : Fin 16) (z : Zone) :
    (newContact channels id i z).travel =
      (zonePosition z.kind (contributions channels z) none).map
        fun p => { position := p, reported := p } :=
  rfl

/-- The reported position of a new record equals its position (R59, R79). -/
theorem newContact_reported {channels : Vector Channel 32} {id : Nat} {i : Fin 16} {z : Zone}
    {t : Travel} (h : (newContact channels id i z).travel = some t) : t.reported = t.position := by
  rw [newContact_travel] at h
  obtain ⟨p, -, rfl⟩ := Option.map_eq_some_iff.mp h
  rfl

/-- Settles O50: a BUTTON forms no position, and on the other kinds the model's move test is the one
the statement spells. -/
theorem contactUpdateTestsTheMove : Obligations.ContactUpdateTestsTheMove := by
  intro channels z c
  refine ⟨fun id i => ⟨by rw [newContact_changes], fun _ => newContact_reported⟩, ?_, ?_⟩
  · intro hk
    exact updateByZone_of_no_position (fun _ => by rw [hk]; rfl) c
  · intro t hk ht
    obtain ⟨p, hp⟩ := exists_zonePosition hk (contributions channels z) (some t.position)
    refine ⟨p, hp, ?_⟩
    rw [updateByZone_of_position ht hp]
    simp only [moveRecorded_iff, moveDistance_eq hk]

end Sys2Proof.Machine
end


section
/-! PROOFS. The reference sample: which of the five cases a count falls into (R132 to R135). -/

namespace Sys2Proof.Machine

/-- A count out of range is noise and leaves the Reference Unit as it was (R132). -/
theorem judgeReference_of_outOfRange (g : Settings) {raw : Nat} (h : raw ≤ 15 ∨ 4080 ≤ raw)
    (r : Reference) :
    judgeReference g raw r =
      { reference := r, verdict := .noise, raised := some .referenceFault } := by
  unfold judgeReference
  obtain hlow | hhigh := h
  · rw [rangeClass_low hlow]
  · rw [rangeClass_high hhigh]

/-- A count in range is judged by the reference state it finds (R133 to R135). -/
theorem judgeReference_of_inRange (g : Settings) {raw : Nat} (h : ¬ (raw ≤ 15 ∨ 4080 ≤ raw))
    (r : Reference) : judgeReference g raw r = judgeInRangeReference g raw r := by
  unfold judgeReference
  rw [rangeClass_inRange (by omega) (by omega)]

/-- An in-range count under UNSET is captured (R133). -/
theorem judgeReference_of_unset (g : Settings) {raw : Nat} {r : Reference}
    (h : ¬ (raw ≤ 15 ∨ 4080 ≤ raw)) (hr : r.state = .unset) :
    judgeReference g raw r =
      { reference := capturedReference raw, verdict := .proceed, raised := none } := by
  rw [judgeReference_of_inRange g h]
  simp only [judgeInRangeReference, hr]

/-- An in-range count that does not find UNSET is judged by its offset (R134, R135). -/
theorem judgeReference_of_not_unset (g : Settings) {raw : Nat} {r : Reference}
    (h : ¬ (raw ≤ 15 ∨ 4080 ≤ raw)) (hr : r.state ≠ .unset) :
    judgeReference g raw r = judgeOffset g raw r := by
  rw [judgeReference_of_inRange g h, judgeInRangeReference]
  cases hs : r.state with
  | unset => exact absurd hs hr
  | set => rfl

section
variable {g : Settings} {raw : Nat} {r : Reference}

/-- The model compares the size of the offset with the limit; the spec bounds the signed offset on
both sides (R134). -/
theorem judgeOffset_of_within
    (h : -(g.referenceLimit : Int) ≤ (raw : Int) - (r.baseline : Int)
      ∧ (raw : Int) - (r.baseline : Int) ≤ (g.referenceLimit : Int)) :
    judgeOffset g raw r =
      { reference := { r with offset := (raw : Int) - (r.baseline : Int), noiseCount := 0 },
        verdict := .proceed, raised := none } :=
  if_pos (by omega)

/-- An offset beyond the limit leaves the noise count to decide between noise and a recapture
(R135). -/
theorem judgeOffset_of_beyond
    (h : ¬ (-(g.referenceLimit : Int) ≤ (raw : Int) - (r.baseline : Int)
      ∧ (raw : Int) - (r.baseline : Int) ≤ (g.referenceLimit : Int))) :
    judgeOffset g raw r =
      if g.noiseLimit ≤ r.noiseCount + 1 then
        { reference := capturedReference raw, verdict := .proceed,
          raised := some .referenceRecaptured }
      else
        { reference := { r with noiseCount := r.noiseCount + 1 }, verdict := .noise,
          raised := none } :=
  if_neg (by omega)

end

/-- Settles O32: the chain of the statement is the model's own, in the order range, reference state,
offset, noise count. -/
theorem referenceSampleHasFiveCases : Obligations.ReferenceSampleHasFiveCases := by
  intro g raw r o offset
  show if raw ≤ 15 ∨ 4080 ≤ raw then _ else _
  split_ifs with hrange hunset hwithin hcount
  · exact judgeReference_of_outOfRange g hrange r
  · exact judgeReference_of_unset g hrange hunset
  · exact (judgeReference_of_not_unset g hrange hunset).trans (judgeOffset_of_within hwithin)
  · exact ((judgeReference_of_not_unset g hrange hunset).trans
      (judgeOffset_of_beyond hwithin)).trans (if_neg (Nat.not_le.mpr hcount))
  · exact ((judgeReference_of_not_unset g hrange hunset).trans
      (judgeOffset_of_beyond hwithin)).trans (if_pos (Nat.not_lt.mp hcount))

end Sys2Proof.Machine
end


section
/-! PROOFS. The check byte: each shift of the CRC-8 can be undone, so a value ends at 00h only from
00h, and a frame's CRC is 00h exactly when its check byte is the CRC of the rest (R169). -/

namespace Sys2Proof.Machine

/-! ### One shift, one byte, one frame -/

/-- A shift that puts out a 1 leaves a 1 in the lowest place, which the shift vacates and 07h fills. -/
theorem crcShift_of_msb {v : Byte} (h : v.msb = true) : (crcShift v).getLsbD 0 = true := by
  simp [crcShift, h]

/-- A shift that puts out a 0 doubles the value and loses nothing. -/
theorem toNat_crcShift_of_not_msb {v : Byte} (h : v.msb = false) :
    (crcShift v).toNat = 2 * v.toNat := by
  have hlt : 2 * v.toNat < 2 ^ 8 := BitVec.msb_eq_false_iff_two_mul_lt.mp h
  rw [crcShift, if_neg (by simp [h]), BitVec.toNat_shiftLeft]
  omega

/-- No byte but 00h is shifted to 00h. -/
theorem crcShift_eq_zero {v : Byte} : crcShift v = 0#8 ↔ v = 0#8 := by
  cases hm : v.msb with
  | true =>
    have hbit := crcShift_of_msb hm
    constructor
    · intro h
      simp [h] at hbit
    · rintro rfl
      simp at hm
  | false =>
    rw [← BitVec.toNat_inj, ← BitVec.toNat_inj, toNat_crcShift_of_not_msb hm]
    simp

theorem repeat_crcShift_eq_zero (n : Nat) (v : Byte) :
    Nat.repeat crcShift n v = 0#8 ↔ v = 0#8 := by
  induction n with
  | zero => rfl
  | succ n ih => exact crcShift_eq_zero.trans ih

/-- A byte takes the CRC to 00h exactly when it equals the CRC it meets. -/
theorem crcByte_eq_zero {crc b : Byte} : crcByte crc b = 0#8 ↔ b = crc := by
  rw [crcByte, repeat_crcShift_eq_zero, BitVec.xor_eq_zero_iff, eq_comm]

theorem crc8_append_singleton (body : List Byte) (b : Byte) :
    crc8 (body ++ [b]) = crcByte (crc8 body) b := by
  simp [crc8]

/-- The CRC over a whole frame is 00h exactly when its check byte is the CRC of the rest (R169). -/
theorem crc8_frame_eq_zero {body : List Byte} {check : Byte} :
    crc8 (body ++ [check]) = 0#8 ↔ check = crc8 body := by
  rw [crc8_append_singleton, crcByte_eq_zero]

/-! ### The second check of R168 -/

/-- A frame of the length its length byte announces is judged by its check byte, its code and its
length, in this order (R168). -/
theorem judgeFrame_of_length {code len check : Byte} {operands : List Byte}
    (hl : operands.length = len.toNat) (h : len.toNat ≤ 64) :
    judgeFrame (code :: len :: (operands ++ [check])) =
      if check ≠ crc8 (code :: len :: operands) then some .check
      else if !knownCode code then some .unknown
      else if !lengthAllowed code len.toNat then some .length
      else none := by
  have hn : (code :: len :: (operands ++ [check])).length = operands.length + 3 := by simp
  rw [judgeFrame, storedBytes_eq (by omega), countedBytes_eq (by omega), hn, judgeStored_eq hl h]

/-- The checks after the second one never answer CHECK, so that status means a wrong check byte. -/
theorem judgeFrame_eq_check {code len check : Byte} {operands : List Byte}
    (hl : operands.length = len.toNat) (h : len.toNat ≤ 64) :
    judgeFrame (code :: len :: (operands ++ [check])) = some .check ↔
      check ≠ crc8 (code :: len :: operands) := by
  rw [judgeFrame_of_length hl h]
  split_ifs with hcheck hcode hlen
  · exact iff_of_true rfl hcheck
  all_goals exact iff_of_false (by decide) hcheck

/-- Settles O4: one more byte is one `crcByte`, whose eight shifts the statement spells, and no shift
takes another value than 00h to 00h. -/
theorem crcOfAnIntactFrameIsZero : Obligations.CrcOfAnIntactFrameIsZero := by
  unfold Obligations.CrcOfAnIntactFrameIsZero
  intro shift
  refine ⟨rfl, crc8_append_singleton, by decide +kernel, fun _ => rfl, ?_, ?_⟩
  · intro code len check operands h hl
    exact judgeFrame_eq_check hl h
  · intro body check
    exact crc8_frame_eq_zero

end Sys2Proof.Machine
end

section
/-! PROOFS. One entry for all commands: a request is the hand-off of its taking, a transaction writes
the port and the bus record alone, and every other command is an event. What takings and events keep,
every step keeps. -/

namespace Sys2Proof.Machine

/-! ### Requests and their takings (R170) -/

/-- What the block that owns a request does when it takes it; none for a command that is no request. -/
def taking : Instr → Option (State → State)
  | .identify => some (answerOk identifyPayload)
  | .getStatus => some fun s => answerOk (statusPayload s) s
  | .clearStatus mask => some (takeClearStatus mask)
  | .setModePaused => some (takeSetMode .paused)
  | .setModeActive => some (takeSetMode .active)
  | .setModeWatch => some (takeSetMode .watch)
  | .resetFull => some takeResetFull
  | .resetScan => some takeResetScan
  | .getSettings => some fun s => answerOk (settingsPayload s.settings) s
  | .setSettings r => some (takeSetSettings r)
  | .getChannel i => some (takeGetChannel i)
  | .setChannel i f => some (takeSetChannel i f)
  | .setRole i r => some (takeSetRole i r)
  | .calibrate mask flag => some (takeCalibrate mask flag)
  | .defineZone i k t ms => some (takeDefineZone i k t ms)
  | .deleteZone i => some (takeDeleteZone i)
  | .getZone i => some (takeGetZone i)
  | .readContacts => some fun s => answerOk (contactsPayload s.contacts) s
  | .readChanges => some fun s => answerOk (contactsPayload (changedContacts s.contacts)) s
  | .ackContacts pairs => some (takeAckContacts pairs)
  | .measure t l => some (takeMeasure t l)
  | .measureResult => some fun s => answerOk (slotPayload s.slot) s
  | .powerOn => none
  | .startUpComplete _ => none
  | .rstnLow => none
  | .rstnRise _ => none
  | .holdAssert => none
  | .holdRelease => none
  | .requestFrame _ _ => none
  | .addressProbe _ => none
  | .replyRead _ _ => none
  | .busTimeout _ => none
  | .resetComplete _ => none
  | .conversionComplete _ => none
  | .roundTimerExpiry => none
  | .watchTimerExpiry => none
  | .roundHoldLimitExpiry => none
  | .measureHoldLimitExpiry => none
  | .supplyFall => none

/-- Every request command is the hand-off of its taking. -/
theorem exec_taking {c : Instr} {take : State → State} (h : taking c = some take) (s : State) :
    exec c s = .next (deliver c take s) := by
  cases c <;> cases h <;> rfl

/-- The commands with a taking are the requests of R185. -/
theorem taking_eq_none {c : Instr} : taking c = none ↔ requestBody c = none := by
  cases c <;> constructor <;> intro h <;> cases h <;> rfl

theorem exists_taking {c : Instr} (h : requestBody c ≠ none) : ∃ take, taking c = some take :=
  Option.ne_none_iff_exists'.mp fun hn => h (taking_eq_none.mp hn)

/-- A well-formed request that the part takes goes to its block. -/
theorem exec_takes {c : Instr} {take : State → State} {s : State} (h : taking c = some take)
    (hw : WellFormed c = true) (ht : Takes c s) : exec c s = .next (take (handOff c s)) := by
  rw [exec_taking h, deliver_takes take hw (fun hn => ?_) ht]
  rw [taking_eq_none.mpr hn] at h
  cases h

/-! ### Transactions and events -/

/-- A transaction at the port (R165 to R175). -/
def isTransaction : Instr → Bool
  | .requestFrame _ _ => true
  | .addressProbe _ => true
  | .replyRead _ _ => true
  | .busTimeout _ => true
  | _ => false

/-- A command that is neither a request nor a transaction. -/
def isEvent (c : Instr) : Bool := (taking c).isNone && !isTransaction c

/-- A transaction writes the port and the bus record alone. -/
theorem exec_transaction {c : Instr} (h : isTransaction c = true) {s t : State}
    (he : exec c s = .next t) : ∃ p b, t = { s with port := p, bus := b } := by
  cases c <;> cases h
  case requestFrame a w =>
    simp only [exec, execRequestFrame] at he
    split at he
    · split at he <;> cases he
      · exact ⟨_, _, rfl⟩
      · obtain ⟨status, hr⟩ | ⟨c, _, _, hr⟩ := receiveFrame_cases w.bytes s <;> rw [hr] <;>
          exact ⟨_, _, rfl⟩
    · cases he
      exact ⟨_, _, rfl⟩
  case addressProbe a =>
    simp only [exec, execAddressProbe] at he
    split at he <;> cases he <;> exact ⟨_, _, rfl⟩
  case replyRead a acks =>
    simp only [exec, execReplyRead] at he
    split at he <;> cases he <;> exact ⟨_, _, rfl⟩
  case busTimeout cut =>
    simp only [exec, execBusTimeout] at he
    split at he
    · cases cut <;> cases he <;> exact ⟨_, _, rfl⟩
    · cases he
      exact ⟨_, _, rfl⟩

/-- What an event leaves of `s`: the reset, HOLD, the converter and the timers (R111, R112, R120, R124,
R148, R161, R180 to R182). -/
inductive Event (s : State) : Instr → State → Prop
  | ignored {c} : Event s c s
  | powerOn : Event s .powerOn (startPowerOn s)
  | startUpWaits {a b} (h : s.power = .powerOnReset b) :
      Event s (.startUpComplete a) { s with power := .powerOnReset true }
  | startUpEnds {a b} (h : s.power = .powerOnReset b) (hr : s.rstnLow = false) :
      Event s (.startUpComplete a) (completeFullReset .power a s)
  | rstnFalls (h : blocksRun s = true) : Event s .rstnLow (startPinReset s)
  | rstnFallsHeld (h : blocksRun s = false) : Event s .rstnLow { s with rstnLow := true }
  | rstnRises {a} (cause : ResetCause) (h : blocksRun s = false) :
      Event s (.rstnRise a) (completeFullReset cause a { s with rstnLow := false })
  | rstnRisesOnly {a} : Event s (.rstnRise a) { s with rstnLow := false }
  | holdBegins (h : blocksRun s = true) (hh : s.hold = false) :
      Event s .holdAssert (holdBegins { s with hold := true })
  | holdBeginsHeld (h : blocksRun s = false) : Event s .holdAssert { s with hold := true }
  | holdEnds (h : blocksRun s = true) (hh : s.hold = true) :
      Event s .holdRelease (holdEnds { s with hold := false })
  | holdEndsHeld (h : blocksRun s = false) : Event s .holdRelease { s with hold := false }
  | resetCompletes {a kind} (h : s.power = .requestedReset kind) :
      Event s (.resetComplete a) (completeRequestedReset kind a s)
  | converted {n cv} (h : blocksRun s = true) (hc : s.converter = some cv) :
      Event s (.conversionComplete n) (judgeAttn (completeConversion n.toNat s))
  | roundTimer {ms} (h : blocksRun s = true) (ht : s.scan.roundTimer = .running ms) :
      Event s .roundTimerExpiry
        (grant (startIfDue { s with scan := { s.scan with roundTimer := .expired } }))
  | watchTimer {ms} (h : blocksRun s = true) (ht : s.scan.watchTimer = .running ms) :
      Event s .watchTimerExpiry
        (grant (startIfDue { s with scan := { s.scan with watchTimer := .expired } }))
  | roundHeldOff {ms r} (h : blocksRun s = true) (ht : s.scan.holdTimer = .running ms)
      (hr : s.scan.round = .running r) : Event s .roundHoldLimitExpiry (judgeAttn (holdTimeout s))
  | measureHeldOff {ms} (h : blocksRun s = true) (ht : s.slotTimer = .running ms) :
      Event s .measureHoldLimitExpiry (holdOff s)
  | supplyFalls : Event s .supplyFall
      { s with
        power := .unpowered
        attn := Config.unpoweredAttn s.supplyFalls
        drive := Table.build fun i => Config.unpoweredPin s.supplyFalls i.val
        supplyFalls := s.supplyFalls + 1 }

/-- An event at the blocks acts while they run. -/
theorem event_blockEvent {s : State} {c : Instr} {f : State → State}
    (h : blocksRun s = true → Event s c (judgeAttn (f s))) : Event s c (blockEvent f s) := by
  cases hb : blocksRun s with
  | true => rw [blockEvent_run hb]; exact h hb
  | false => rw [blockEvent_idle hb]; exact .ignored

theorem blocksRun_eq_false {s : State} :
    blocksRun s = false ↔
      s.power = .unpowered ∨ s.power = .pinReset ∨ ∃ b, s.power = .powerOnReset b := by
  cases h : s.power <;> simp [blocksRun, h]

theorem blocksRun_eq_true {s : State} :
    blocksRun s = true ↔ s.power = .running ∨ ∃ kind, s.power = .requestedReset kind := by
  cases h : s.power <;> simp [blocksRun, h]

/-- Every event leaves what `Event` says. -/
theorem exec_event {c : Instr} (hc : isEvent c = true) {s t : State} (h : exec c s = .next t) :
    Event s c t := by
  cases c <;> cases hc
  case powerOn => cases h; exact .powerOn
  case startUpComplete a =>
    simp only [exec, execStartUpComplete] at h
    split at h
    · rename_i hp
      split at h
      · cases h; exact .startUpWaits hp
      · rename_i hr; cases h; exact .startUpEnds hp (by simpa using hr)
    all_goals cases h; exact .ignored
  case rstnLow =>
    simp only [exec, execRstnLow] at h
    split at h <;> rename_i hp <;> cases h
    · exact .rstnFalls (by simp [blocksRun, hp])
    · exact .rstnFalls (by simp [blocksRun, hp])
    all_goals exact .rstnFallsHeld (by simp [blocksRun, hp])
  case rstnRise a =>
    simp only [exec, execRstnRise] at h
    split at h
    · split at h <;> rename_i hp <;> cases h
      · exact .rstnRises .pin (by simp [blocksRun, hp])
      · exact .rstnRises .power (by simp [blocksRun, hp])
      all_goals exact .rstnRisesOnly
    · cases h; exact .ignored
  case holdAssert =>
    simp only [exec, execHoldAssert] at h
    split at h
    · cases h; exact .ignored
    · rename_i hh
      split at h <;> rename_i hb <;> cases h
      · exact .holdBegins hb (by simpa using hh)
      · exact .holdBeginsHeld (by simpa using hb)
  case holdRelease =>
    simp only [exec, execHoldRelease] at h
    split at h
    · rename_i hh
      split at h <;> rename_i hb <;> cases h
      · exact .holdEnds hb hh
      · exact .holdEndsHeld (by simpa using hb)
    · cases h; exact .ignored
  case resetComplete a =>
    simp only [exec, execResetComplete] at h
    split at h
    · rename_i hp
      cases h; exact .resetCompletes hp
    all_goals cases h; exact .ignored
  case conversionComplete n =>
    simp only [exec, execConversionComplete] at h
    split at h <;> cases h
    · rename_i hcv
      exact event_blockEvent fun hb => .converted hb hcv
    · exact .ignored
  case roundTimerExpiry =>
    simp only [exec, execRoundTimerExpiry] at h
    split at h <;> cases h
    · rename_i ht hb
      exact .roundTimer hb ht
    · exact .ignored
  case watchTimerExpiry =>
    simp only [exec, execWatchTimerExpiry] at h
    split at h <;> cases h
    · rename_i ht hb
      exact .watchTimer hb ht
    · exact .ignored
  case roundHoldLimitExpiry =>
    simp only [exec, execRoundHoldLimitExpiry] at h
    split at h <;> cases h
    · rename_i ht hr
      exact event_blockEvent fun hb => .roundHeldOff hb ht hr
    all_goals exact .ignored
  case measureHoldLimitExpiry =>
    simp only [exec, execMeasureHoldLimitExpiry] at h
    split at h <;> cases h
    · rename_i ht hb
      exact .measureHeldOff hb ht
    · exact .ignored
  case supplyFall => cases h; exact .supplyFalls

/-! ### What every command keeps -/

/-- A property of the state that neither the port nor the bus record enters. -/
def IgnoresPort (P : State → Prop) : Prop := ∀ s p b, P s → P { s with port := p, bus := b }

/-- Every taking keeps the property, on the part that runs. -/
def TakingsKeep (P : State → Prop) : Prop :=
  ∀ c take s, taking c = some take → s.power = .running → P s → P (take s)

/-- Every event keeps the property. -/
def EventsKeep (P : State → Prop) : Prop :=
  ∀ c s t, Event s c t → P s → P t

/-- A command that is a request does what its taking does, or writes the port and the bus record
alone. -/
theorem deliver_keeps {P : State → Prop} (hp : IgnoresPort P) {c : Instr} {take : State → State}
    {s : State} (h : s.power = .running → ∀ b, P { s with bus := b } → P (take { s with bus := b }))
    (hs : P s) : P (deliver c take s) := by
  obtain ⟨hr, _, _, e⟩ | ⟨⟨hr, _⟩, e⟩ | ⟨_, status, e⟩ | e := deliver_cases c take s <;> rw [e]
  · exact h hr s.bus hs
  · exact h hr _ (hp s s.port _ hs)
  · exact hp s _ _ hs
  · exact hs

/-- What takings and events keep, every command keeps. -/
theorem exec_keeps {P : State → Prop} (hp : IgnoresPort P) (ht : TakingsKeep P) (he : EventsKeep P)
    {c : Instr} {s t : State} (hs : P s) (h : exec c s = .next t) : P t := by
  cases hc : taking c with
  | some take =>
    rw [exec_taking hc] at h
    cases h
    exact deliver_keeps hp (fun hr b hb => ht c take _ hc hr hb) hs
  | none =>
    cases hb : isTransaction c with
    | true =>
      obtain ⟨p, b, rfl⟩ := exec_transaction hb h
      exact hp s p b hs
    | false => exact he c s t (exec_event (by simp [isEvent, hc, hb]) h) hs

/-- What every command keeps and the queue does not enter, every step keeps. -/
theorem step_keeps {P : State → Prop} (hq : ∀ s q, P s → P { s with pending := q })
    (h : ∀ c s t, P s → exec c s = .next t → P t) {s t : State} (hs : P s)
    (hst : step s = .next t) : P t := by
  unfold step at hst
  split at hst
  · cases hst
    exact hs
  · exact h _ _ _ (hq _ _ hs) hst

end Sys2Proof.Machine
end

section
/-! PROOFS. What a command can do to the settings, the Channel Table, the Zone Table and the Contact
Table: one inversion lemma over all commands, from which every law of the tables is derived. -/

namespace Sys2Proof.Machine

/-! ### States with the same tables -/

/-- Two states hold the same settings, channels, zones, contacts and next-id counter. -/
structure SameTables (s t : State) : Prop where
  settings : t.settings = s.settings
  channels : t.channels = s.channels
  zones : t.zones = s.zones
  contacts : t.contacts = s.contacts
  nextId : t.nextId = s.nextId

theorem SameTables.refl (s : State) : SameTables s s := ⟨rfl, rfl, rfl, rfl, rfl⟩

theorem SameTables.trans {s t u : State} (h : SameTables s t) (h' : SameTables t u) :
    SameTables s u :=
  ⟨h'.settings.trans h.settings, h'.channels.trans h.channels, h'.zones.trans h.zones,
    h'.contacts.trans h.contacts, h'.nextId.trans h.nextId⟩

/-- Every channel put to QUIET that WATCH entry puts there (R158). -/
def quietChannels (s : State) : State :=
  { s with channels := Table.mapAt (fun _ c => quietUnwatched c) s.channels }

section
variable (s : State)

/-- The forcing to QUIET writes the channels alone. -/
@[simp] theorem quietChannels_fields :
    (quietChannels s).channels = Table.mapAt (fun _ c => quietUnwatched c) s.channels
      ∧ (quietChannels s).settings = s.settings ∧ (quietChannels s).zones = s.zones
      ∧ (quietChannels s).contacts = s.contacts ∧ (quietChannels s).nextId = s.nextId
      ∧ (quietChannels s).events = s.events ∧ (quietChannels s).power = s.power
      ∧ (quietChannels s).attn = s.attn ∧ (quietChannels s).hold = s.hold
      ∧ (quietChannels s).reference = s.reference ∧ (quietChannels s).converter = s.converter
      ∧ (quietChannels s).scanClaim = s.scanClaim ∧ (quietChannels s).slot = s.slot
      ∧ (quietChannels s).slotTimer = s.slotTimer ∧ (quietChannels s).drive = s.drive
      ∧ (quietChannels s).scan = s.scan := by
  simp only [quietChannels, and_self]

/-! ### Operations that write no table -/

theorem sameTables_grant : SameTables s (grant s) := by constructor <;> simp

theorem sameTables_judgeAttn : SameTables s (judgeAttn s) := by constructor <;> simp

theorem sameTables_startIfDue : SameTables s (startIfDue s) := by constructor <;> simp

theorem sameTables_closeRound (kind : RoundKind) : SameTables s (closeRound kind s) := by
  constructor <;> simp

theorem sameTables_applyReference (raw : Nat) : SameTables s (applyReference raw s) := by
  constructor <;> simp

theorem sameTables_finishHost (cv : Conversion) (raw : Nat) :
    SameTables s (finishHost cv raw s) := by
  obtain ⟨_, _, _, ⟨_, h⟩ | ⟨_, h⟩⟩ | ⟨_, h⟩ := finishHost_cases cv raw s <;> rw [h] <;>
    exact ⟨rfl, rfl, rfl, rfl, rfl⟩

theorem sameTables_wakeCheck : SameTables s (wakeCheck s) := by
  unfold wakeCheck
  split <;> exact ⟨rfl, rfl, rfl, rfl, rfl⟩

theorem sameTables_writeMode (mode : ScanMode) : SameTables s (writeMode mode s) := by
  cases mode <;> exact ⟨rfl, rfl, rfl, rfl, rfl⟩

theorem sameTables_startSlotTimer : SameTables s (startSlotTimer s) := by
  unfold startSlotTimer
  split <;> exact ⟨rfl, rfl, rfl, rfl, rfl⟩

theorem sameTables_queueMeasurement (target : Target) (level : Nat) :
    SameTables s (queueMeasurement target level s) := by
  unfold queueMeasurement
  split
  · refine SameTables.trans ?_ (sameTables_startSlotTimer _)
    exact ⟨rfl, rfl, rfl, rfl, rfl⟩
  · exact ⟨rfl, rfl, rfl, rfl, rfl⟩

theorem sameTables_startRoundHoldTimer : SameTables s (startRoundHoldTimer s) := by
  unfold startRoundHoldTimer
  split <;> exact ⟨rfl, rfl, rfl, rfl, rfl⟩

theorem sameTables_holdBegins : SameTables s (holdBegins s) := by
  refine SameTables.trans (SameTables.trans ?_ (sameTables_startSlotTimer _))
    (sameTables_startRoundHoldTimer _)
  exact ⟨rfl, rfl, rfl, rfl, rfl⟩

theorem sameTables_endHoldWait : SameTables s (endHoldWait s) := by
  unfold endHoldWait restartModeTimer
  split
  · dsimp only
    split <;> exact ⟨rfl, rfl, rfl, rfl, rfl⟩
  all_goals exact SameTables.refl s

theorem sameTables_holdEnds : SameTables s (holdEnds s) := by
  refine SameTables.trans (SameTables.trans ?_ (sameTables_endHoldWait _)) (sameTables_grant _)
  exact ⟨rfl, rfl, rfl, rfl, rfl⟩

theorem sameTables_holdOff : SameTables s (holdOff s) := by
  unfold holdOff
  split <;> exact ⟨rfl, rfl, rfl, rfl, rfl⟩

theorem sameTables_restartByMode : SameTables s (restartByMode s) := by
  unfold restartByMode
  split
  · exact SameTables.refl s
  · refine SameTables.trans ?_ (sameTables_grant _)
    exact ⟨rfl, rfl, rfl, rfl, rfl⟩
  · exact ⟨rfl, rfl, rfl, rfl, rfl⟩

end

/-! ### The end of an abandonment and a change of mode -/

/-- Putting channels to QUIET rests on the tables alone. -/
theorem SameTables.quiet {s t : State} (h : SameTables s t) :
    SameTables (quietChannels s) (quietChannels t) := by
  obtain ⟨hg, hc, hz, hk, hn⟩ := h
  constructor <;> simp [hg, hc, hz, hk, hn]

/-- What the entry of a mode can leave of the tables of `s`: the tables as they were, or the channels
put to QUIET (R158). -/
def ModeTables (s t : State) : Prop := SameTables s t ∨ SameTables (quietChannels s) t

theorem ModeTables.of_same {s s' t : State} (h' : SameTables s s') (h : ModeTables s' t) :
    ModeTables s t :=
  h.imp h'.trans h'.quiet.trans

theorem ModeTables.trans {s t t' : State} (h : ModeTables s t) (h' : SameTables t t') :
    ModeTables s t' :=
  h.imp (·.trans h') (·.trans h')

theorem enterMode_tables (s : State) : ModeTables s (enterMode s) := by
  unfold enterMode
  split
  · exact .inl (SameTables.refl s)
  · exact .inl ⟨rfl, rfl, rfl, rfl, rfl⟩
  · exact .inr (sameTables_startIfDue (quietChannels s))

theorem endAbandonment_tables (s : State) : ModeTables s (endAbandonment s) := by
  refine ModeTables.of_same ?_ (enterMode_tables _)
  exact ⟨rfl, rfl, rfl, rfl, rfl⟩

theorem abandonForMode_tables (s : State) : ModeTables s (abandonForMode s) := by
  unfold abandonForMode
  split
  · split
    · exact .inl ⟨rfl, rfl, rfl, rfl, rfl⟩
    · refine ModeTables.of_same ?_ (endAbandonment_tables _)
      exact ⟨rfl, rfl, rfl, rfl, rfl⟩
  · exact .inl (SameTables.refl s)
  · exact endAbandonment_tables s
  · exact endAbandonment_tables s

/-- A change of mode writes no table, or puts channels to QUIET (R158). -/
theorem changeMode_tables (mode : ScanMode) (s : State) : ModeTables s (changeMode mode s) :=
  ((abandonForMode_tables _).of_same (sameTables_writeMode s mode)).trans (sameTables_grant _)

/-! ### The completion of a conversion -/

/-- What the sample of a completing conversion can leave: nothing, or the sample event of the channel
whose count is kept (R112, R113). -/
inductive SampleEffect (raw : Nat) (s : State) : State → Prop
  | none : SampleEffect raw s s
  | taken {cv : Conversion} {i : Fin 32} (hc : s.converter = some cv) (hs : cv.claimant = .scan)
      (hi : cv.target = .channel i) (hh : cv.held = false) (hr : cv.roleLost = false) :
      SampleEffect raw s (applySample i raw s)

/-- What the round of `s` can leave of the tables of `u` at a completion: nothing, round-end
processing of an ACTIVE round, or the channels that WATCH entry puts to QUIET. -/
inductive RoundEffect (s u t : State) : Prop
  | none (h : SameTables u t)
  | ended {r : Round} {v : State} (hr : s.scan.round = .running r) (hk : r.kind = .active)
      (hv : SameTables u v) (ht : SameTables (roundEndProcessing v) t)
  | quieted (h : SameTables (quietChannels u) t)

theorem RoundEffect.trans {s u t t' : State} (h : RoundEffect s u t) (h' : SameTables t t') :
    RoundEffect s u t' := by
  cases h with
  | none h => exact .none (h.trans h')
  | ended hr hk hv ht => exact .ended hr hk hv (ht.trans h')
  | quieted h => exact .quieted (h.trans h')

theorem RoundEffect.of_same {s u u' t : State} (h : RoundEffect s u' t) (h' : SameTables u u') :
    RoundEffect s u t := by
  cases h with
  | none h => exact .none (h'.trans h)
  | ended hr hk hv ht => exact .ended hr hk (h'.trans hv) ht
  | quieted h => exact .quieted (h'.quiet.trans h)

/-- The end of a completed round of `s`. -/
theorem completeRound_tables {s : State} {r : Round} (hr : s.scan.round = .running r)
    (verdict : Verdict) (u : State) : RoundEffect s u (completeRound r.kind verdict u) := by
  have hc := sameTables_closeRound u r.kind
  unfold completeRound
  refine RoundEffect.trans ?_ (sameTables_startIfDue _)
  cases verdict with
  | noise => exact .none hc
  | proceed =>
    cases hk : r.kind with
    | active => exact .ended hr hk (hk ▸ hc) (SameTables.refl _)
    | watch => exact .none ((hk ▸ hc).trans (sameTables_wakeCheck _))

theorem channelTurn_tables {s : State} {r : Round} (hr : s.scan.round = .running r) (u : State) :
    RoundEffect s u (channelTurn r u) := by
  unfold channelTurn
  split
  · exact .none ⟨rfl, rfl, rfl, rfl, rfl⟩
  · exact completeRound_tables hr .proceed u

theorem endAbandonment_effect (s u : State) : RoundEffect s u (endAbandonment u) := by
  obtain h | h := endAbandonment_tables u
  · exact .none h
  · exact .quieted h

section
variable {s u : State} (h : u.scan.round = s.scan.round)
include h

theorem roundAfterReference_tables (verdict : Verdict) :
    RoundEffect s u (roundAfterReference verdict u) := by
  unfold roundAfterReference
  split
  · rename_i r hr
    cases verdict with
    | proceed => exact channelTurn_tables (h ▸ hr) u
    | noise => exact completeRound_tables (h ▸ hr) .noise u
  · exact endAbandonment_effect s u
  all_goals exact .none (SameTables.refl u)

theorem roundAfterChannel_tables : RoundEffect s u (roundAfterChannel u) := by
  unfold roundAfterChannel
  split
  · rename_i r hr
    exact channelTurn_tables (h ▸ hr) u
  · exact endAbandonment_effect s u
  all_goals exact .none (SameTables.refl u)

theorem roundAfterHeld_tables (target : Target) : RoundEffect s u (roundAfterHeld target u) := by
  unfold roundAfterHeld
  split
  · rename_i r hr
    cases target with
    | ref => exact .none ⟨rfl, rfl, rfl, rfl, rfl⟩
    | channel i =>
      dsimp only
      split
      · exact .none ⟨rfl, rfl, rfl, rfl, rfl⟩
      · exact channelTurn_tables (h ▸ hr) u
  · exact endAbandonment_effect s u
  all_goals exact .none (SameTables.refl u)

end

/-- A kept channel count comes from a conversion that was not held and lost no role (R113). -/
theorem kept_of_discardOf {cv : Conversion} {i : Fin 32} (h : discardOf cv = .kept)
    (hi : cv.target = .channel i) : cv.held = false ∧ cv.roleLost = false := by
  rw [discardOf_eq, hi] at h
  cases hr : cv.roleLost <;> cases hh : cv.held <;> simp_all

/-- What the completion of a conversion can do to the tables (R112). -/
theorem completeConversion_tables (raw : Nat) (s : State) :
    ∃ u, SampleEffect raw s u ∧ RoundEffect s u (completeConversion raw s) := by
  unfold completeConversion
  have hr : SameTables s (releaseConverter s) := ⟨rfl, rfl, rfl, rfl, rfl⟩
  split
  · exact ⟨s, .none, .none (SameTables.refl s)⟩
  rename_i cv hcv
  split
  · exact ⟨s, .none,
      .none ((hr.trans (sameTables_finishHost _ _ _)).trans (sameTables_grant _))⟩
  rename_i hcl
  unfold finishScan
  split
  · have ha := hr.trans (sameTables_applyReference (releaseConverter s) raw)
    refine ⟨s, .none, RoundEffect.trans ?_ (sameTables_grant _)⟩
    split
    · exact (roundAfterReference_tables (by simp) _).of_same ha
    · exact .none ha
  · rename_i i hk hi
    obtain ⟨hh, hl⟩ := kept_of_discardOf hk hi
    have ha : SameTables (applySample i raw s) (applySample i raw (releaseConverter s)) := by
      constructor <;> simp [sampledChannel]
    refine ⟨_, .taken hcv hcl hi hh hl, RoundEffect.trans ?_ (sameTables_grant _)⟩
    split
    · exact (roundAfterChannel_tables (by simp)).of_same ha
    · exact .none ha
  · refine ⟨s, .none, RoundEffect.trans ?_ (sameTables_grant _)⟩
    split
    · exact (roundAfterHeld_tables (by simp) _).of_same hr
    · exact .none hr
  · refine ⟨s, .none, RoundEffect.trans ?_ (sameTables_grant _)⟩
    split
    · exact (roundAfterChannel_tables (by simp)).of_same hr
    · exact .none hr

/-! ### All commands -/

/-- What a command can do to the tables of `s`, leaving those of the last argument. -/
inductive TableEffect (s : State) : Instr → State → Prop
  | same {c t} (h : SameTables s t) : TableEffect s c t
  | fullReset {c t} (slot : Slot)
      (hc : c = .resetFull ∨ c = .rstnLow ∨ (∃ b, c = .rstnRise b) ∨ ∃ b, c = .startUpComplete b)
      (h : SameTables (fullResetBlocks slot s) t) : TableEffect s c t
  | scanReset {t} (h : SameTables (scanResetBlocks s) t) : TableEffect s .resetScan t
  | resetStands {b t} (h : SameTables (resetStands s) t) : TableEffect s (.resetComplete b) t
  | settings {r t} (hv : settingsValid r = true)
      (h : SameTables { s with settings := settingsOf r } t) : TableEffect s (.setSettings r) t
  | channel {b i f t} (hi : channelOf b = some i) (hf : channelFieldsValid f = true)
      (h : SameTables { s with
        channels := Table.write s.channels i (reconfigure f (Table.read s.channels i)) } t) :
      TableEffect s (.setChannel b f) t
  | role {b code i r t} (hi : channelOf b = some i) (hm : ¬ (isMember i s = true ∧ r ≠ .sense))
      (h : SameTables { s with
        channels := Table.write s.channels i (changeRole r (Table.read s.channels i)) } t) :
      TableEffect s (.setRole b code) t
  | calibrate {mask flag t}
      (h : SameTables { s with channels := Table.mapAt (calibrateChannel mask) s.channels } t) :
      TableEffect s (.calibrate mask flag) t
  | defineZone {b kind th ms o t} (ho : zoneOperands b kind th ms = some o)
      (hr : defineRefusal o s = none)
      (h : SameTables { s with zones := Table.write s.zones o.index (some (newZone o)) } t) :
      TableEffect s (.defineZone b kind th ms) t
  | deleteZone {b i z t} (hz : Table.read s.zones i = some z)
      (h : SameTables { s with
        contacts := contactsAfterDelete z s.contacts, zones := Table.write s.zones i none } t) :
      TableEffect s (.deleteZone b) t
  | acknowledge {pairs t} (h : SameTables { s with contacts := (ackList pairs s.contacts).2 } t) :
      TableEffect s (.ackContacts pairs) t
  | quieted {c t} (h : SameTables (quietChannels s) t) : TableEffect s c t
  | completed {n : BitVec 12} {u t} (hu : SampleEffect n.toNat s u) (ht : RoundEffect s u t) :
      TableEffect s (.conversionComplete n) t

theorem TableEffect.trans {s t t' : State} {c : Instr} (h : TableEffect s c t)
    (h' : SameTables t t') : TableEffect s c t' := by
  cases h with
  | same h => exact .same (h.trans h')
  | fullReset slot hc h => exact .fullReset slot hc (h.trans h')
  | scanReset h => exact .scanReset (h.trans h')
  | resetStands h => exact .resetStands (h.trans h')
  | settings hv h => exact .settings hv (h.trans h')
  | channel hi hf h => exact .channel hi hf (h.trans h')
  | role hi hm h => exact .role hi hm (h.trans h')
  | calibrate h => exact .calibrate (h.trans h')
  | defineZone ho hr h => exact .defineZone ho hr (h.trans h')
  | deleteZone hz h => exact .deleteZone hz (h.trans h')
  | acknowledge h => exact .acknowledge (h.trans h')
  | quieted h => exact .quieted (h.trans h')
  | completed hu ht => exact .completed hu (ht.trans h')

/-- An answer after an operation keeps what the operation does to the tables. -/
theorem TableEffect.answer {s t : State} {c : Instr} (h : TableEffect s c t) (r : Reply) :
    TableEffect s c (answer r t) :=
  h.trans (by constructor <;> simp)

/-- A judgement of ATTN after an operation keeps what the operation does to the tables. -/
theorem TableEffect.judged {s t : State} {c : Instr} (h : TableEffect s c t) :
    TableEffect s c (judgeAttn t) :=
  h.trans (sameTables_judgeAttn t)

/-- An answer alone writes no table. -/
theorem tableEffect_answer (c : Instr) (r : Reply) (s : State) : TableEffect s c (answer r s) :=
  (TableEffect.same (.refl s)).answer r

/-- What SET MODE can do to the tables (R153 to R158). -/
theorem takeSetMode_tables (c : Instr) (mode : ScanMode) (s : State) :
    TableEffect s c (takeSetMode mode s) := by
  unfold takeSetMode
  split
  · exact tableEffect_answer _ _ s
  · split
    · exact tableEffect_answer _ _ s
    · obtain h | h := changeMode_tables mode s
      · exact (TableEffect.same h).answer _
      · exact (TableEffect.quieted h).answer _

theorem takeClearStatus_tables (mask : BitVec 16) (s : State) :
    TableEffect s (.clearStatus mask) (takeClearStatus mask s) := by
  refine TableEffect.answer (TableEffect.judged (.same ?_)) _
  exact ⟨rfl, rfl, rfl, rfl, rfl⟩

theorem takeSetSettings_tables (r : SettingsOperands) (s : State) :
    TableEffect s (.setSettings r) (takeSetSettings r s) := by
  unfold takeSetSettings
  split
  · rename_i hv
    exact ((TableEffect.settings hv (.refl _)).judged).answer _
  · exact tableEffect_answer _ _ s

theorem takeGetChannel_tables (i : Byte) (s : State) :
    TableEffect s (.getChannel i) (takeGetChannel i s) := by
  unfold takeGetChannel
  split <;> exact tableEffect_answer _ _ s

theorem takeSetChannel_tables (b : Byte) (f : ChannelOperands) (s : State) :
    TableEffect s (.setChannel b f) (takeSetChannel b f s) := by
  unfold takeSetChannel
  split
  · rename_i hi hf
    exact (TableEffect.channel hi hf (.refl _)).answer _
  · exact tableEffect_answer _ _ s
  · exact tableEffect_answer _ _ s

theorem takeSetRole_tables (b code : Byte) (s : State) :
    TableEffect s (.setRole b code) (takeSetRole b code s) := by
  unfold takeSetRole
  split
  · rename_i i r hi _
    split
    · exact tableEffect_answer _ _ s
    · rename_i hm
      refine TableEffect.answer (.role hi hm ?_) _
      exact ⟨rfl, rfl, rfl, rfl, rfl⟩
  · exact tableEffect_answer _ _ s
  · exact tableEffect_answer _ _ s

theorem takeCalibrate_tables (mask : BitVec 32) (flag : Byte) (s : State) :
    TableEffect s (.calibrate mask flag) (takeCalibrate mask flag s) := by
  unfold takeCalibrate
  split
  · exact tableEffect_answer _ _ s
  · refine TableEffect.answer (.calibrate ?_) _
    constructor <;> simp only

theorem takeDefineZone_tables (b kind th : Byte) (ms : List Byte) (s : State) :
    TableEffect s (.defineZone b kind th ms) (takeDefineZone b kind th ms s) := by
  unfold takeDefineZone
  split
  · exact tableEffect_answer _ _ s
  · rename_i o ho
    split
    · exact tableEffect_answer _ _ s
    · rename_i hr
      exact (TableEffect.defineZone ho hr (.refl _)).answer _

theorem takeDeleteZone_tables (b : Byte) (s : State) :
    TableEffect s (.deleteZone b) (takeDeleteZone b s) := by
  unfold takeDeleteZone
  split
  · exact tableEffect_answer _ _ s
  · split
    · exact tableEffect_answer _ _ s
    · rename_i hz
      exact ((TableEffect.deleteZone hz (.refl _)).judged).answer _

theorem takeGetZone_tables (b : Byte) (s : State) :
    TableEffect s (.getZone b) (takeGetZone b s) := by
  unfold takeGetZone
  split <;> exact tableEffect_answer _ _ s

theorem takeMeasure_tables (target level : Byte) (s : State) :
    TableEffect s (.measure target level) (takeMeasure target level s) := by
  unfold takeMeasure
  split
  · split
    · exact tableEffect_answer _ _ s
    · exact (TableEffect.same
        ((sameTables_queueMeasurement _ _ _).trans (sameTables_grant _))).answer _
  · exact tableEffect_answer _ _ s
  · exact tableEffect_answer _ _ s

/-- What a reset in progress holds of the tables is what its blocks were given. -/
theorem sameTables_resetInProgress (kind : ResetKind) (cause : ResetCause) (s : State) :
    SameTables s (resetInProgress kind cause s) := by constructor <;> simp only [resetInProgress]

/-- What a taking can do to the tables. -/
theorem taking_tables {c : Instr} {take : State → State} (hc : taking c = some take) (s : State) :
    TableEffect s c (take s) := by
  cases c <;> cases hc
  case clearStatus mask => exact takeClearStatus_tables mask s
  case setModePaused => exact takeSetMode_tables _ _ s
  case setModeActive => exact takeSetMode_tables _ _ s
  case setModeWatch => exact takeSetMode_tables _ _ s
  case resetFull => exact .fullReset .aborted (.inl rfl) (sameTables_resetInProgress _ _ _)
  case resetScan =>
    exact .scanReset ((sameTables_restartByMode _).trans (sameTables_resetInProgress _ _ _))
  case setSettings r => exact takeSetSettings_tables r s
  case getChannel i => exact takeGetChannel_tables i s
  case setChannel i f => exact takeSetChannel_tables i f s
  case setRole i r => exact takeSetRole_tables i r s
  case calibrate mask flag => exact takeCalibrate_tables mask flag s
  case defineZone i k t ms => exact takeDefineZone_tables i k t ms s
  case deleteZone i => exact takeDeleteZone_tables i s
  case getZone i => exact takeGetZone_tables i s
  case ackContacts pairs =>
    exact ((TableEffect.acknowledge (.refl _)).judged).answer _
  case measure t l => exact takeMeasure_tables t l s
  all_goals exact tableEffect_answer _ _ s

theorem sameTables_completeFullReset (cause : ResetCause) (level : Bool) (s : State) :
    SameTables (fullResetBlocks .none s) (completeFullReset cause level s) := by
  refine SameTables.trans ?_ (sameTables_judgeAttn _)
  constructor <;> simp only

/-- What an event can do to the tables. -/
theorem event_tables {c : Instr} {s t : State} (h : Event s c t) : TableEffect s c t := by
  cases h with
  | ignored => exact .same (.refl s)
  | powerOn => exact .same (by constructor <;> simp [startPowerOn])
  | startUpWaits => exact .same ⟨rfl, rfl, rfl, rfl, rfl⟩
  | startUpEnds =>
    exact .fullReset .none (by simp) (sameTables_completeFullReset _ _ _)
  | rstnFalls =>
    exact .fullReset .none (by simp) (by constructor <;> simp [startPinReset])
  | rstnFallsHeld => exact .same ⟨rfl, rfl, rfl, rfl, rfl⟩
  | rstnRises cause =>
    refine .fullReset .none (by simp) (SameTables.trans ?_ (sameTables_completeFullReset _ _ _))
    constructor <;> simp only [fullResetBlocks]
  | rstnRisesOnly => exact .same ⟨rfl, rfl, rfl, rfl, rfl⟩
  | holdBegins =>
    refine .same (SameTables.trans ?_ (sameTables_holdBegins _))
    exact ⟨rfl, rfl, rfl, rfl, rfl⟩
  | holdBeginsHeld => exact .same ⟨rfl, rfl, rfl, rfl, rfl⟩
  | holdEnds =>
    refine .same (SameTables.trans ?_ (sameTables_holdEnds _))
    exact ⟨rfl, rfl, rfl, rfl, rfl⟩
  | holdEndsHeld => exact .same ⟨rfl, rfl, rfl, rfl, rfl⟩
  | resetCompletes =>
    refine .resetStands (SameTables.trans ?_ (sameTables_judgeAttn _))
    constructor <;> simp
  | @converted n =>
    obtain ⟨u, hu, ht⟩ := completeConversion_tables n.toNat s
    exact .completed hu (ht.trans (sameTables_judgeAttn _))
  | roundTimer =>
    refine .same (((SameTables.trans ?_ (sameTables_startIfDue _))).trans (sameTables_grant _))
    exact ⟨rfl, rfl, rfl, rfl, rfl⟩
  | watchTimer =>
    refine .same (((SameTables.trans ?_ (sameTables_startIfDue _))).trans (sameTables_grant _))
    exact ⟨rfl, rfl, rfl, rfl, rfl⟩
  | roundHeldOff =>
    refine .same (SameTables.trans ?_ (sameTables_judgeAttn _))
    exact ⟨rfl, rfl, rfl, rfl, rfl⟩
  | measureHeldOff => exact .same (sameTables_holdOff s)
  | supplyFalls => exact .same ⟨rfl, rfl, rfl, rfl, rfl⟩

/-- What every command can do to the tables of `s`; a request that stands for the whole exchange writes
the bus record first. -/
theorem exec_tables {c : Instr} {s t : State} (h : exec c s = .next t) :
    ∃ b, TableEffect { s with bus := b } c t := by
  cases hc : taking c with
  | some take =>
    rw [exec_taking hc] at h
    cases h
    obtain ⟨_, _, _, e⟩ | ⟨_, e⟩ | ⟨_, status, e⟩ | e := deliver_cases c take s <;> rw [e]
    · exact ⟨_, taking_tables hc s⟩
    · exact ⟨_, taking_tables hc _⟩
    · exact ⟨_, tableEffect_answer c _ _⟩
    · exact ⟨s.bus, .same (.refl s)⟩
  | none =>
    refine ⟨s.bus, ?_⟩
    cases hb : isTransaction c with
    | true =>
      obtain ⟨p, b, rfl⟩ := exec_transaction hb h
      exact .same ⟨rfl, rfl, rfl, rfl, rfl⟩
    | false => exact event_tables (exec_event (by simp [isEvent, hc, hb]) h)

/-! ### Laws of the tables -/

/-- A property of the tables alone. -/
def OfTables (P : State → Prop) : Prop := ∀ s t, SameTables s t → P s → P t

/-- A property of the tables that each thing a command can do to the tables keeps is kept by every
step. -/
theorem step_keeps_ofTables {P : State → Prop} (hP : OfTables P)
    (h : ∀ s c t, TableEffect s c t → P s → P t) {s t : State} (hs : P s) (hst : step s = .next t) :
    P t := by
  refine step_keeps (fun s q => hP s _ ⟨rfl, rfl, rfl, rfl, rfl⟩) (fun c s t hs he => ?_) hs hst
  obtain ⟨b, ht⟩ := exec_tables he
  exact h _ c t ht (hP s _ ⟨rfl, rfl, rfl, rfl, rfl⟩ hs)

/-- Round-end processing is its stages, the third one zone by zone (R73). -/
theorem roundEndProcessing_keeps {P : State → Prop} (hage : ∀ s, P s → P (ageingStage s))
    (hexp : ∀ s, P s → P (expiryStage s)) (hzone : ∀ s i, P s → P (resolveZone s i))
    (hmark : ∀ s, P s → P (markClearing s)) {s : State} (hs : P s) : P (roundEndProcessing s) :=
  hmark _ (resolutionStage_keeps hzone (hexp _ (hage _ hs)))

/-- What round-end processing and the forcing to QUIET keep, the completion of a conversion keeps. -/
theorem RoundEffect.keeps {P : State → Prop} (hP : OfTables P)
    (hend : ∀ u, P u → P (roundEndProcessing u)) (hquiet : ∀ u, P u → P (quietChannels u))
    {s u t : State} (h : RoundEffect s u t) (hu : P u) : P t := by
  cases h with
  | none h => exact hP _ _ h hu
  | ended _ _ hv ht => exact hP _ _ ht (hend _ (hP _ _ hv hu))
  | quieted h => exact hP _ _ h (hquiet u hu)

end Sys2Proof.Machine
end

section
/-! PROOFS. The laws of the settings and the channel records: what each operation on one record keeps,
and then what every command keeps (R1, R3, R7, R18, R35, R178). -/

namespace Sys2Proof.Machine

/-! ### The handlers of a sample event -/

/-- The law of the dynamic fields: in range, and each count in the state it belongs to. -/
def DynamicsLaw (d : ChannelDynamics) : Prop := DynamicsInRange d ∧ CountsBelong d

/-- A drift step ends between the baseline and the corrected count (R36). -/
theorem driftedBaseline_le {step corrected baseline : Nat} (hc : corrected ≤ 4095)
    (hb : baseline ≤ 4095) : driftedBaseline step corrected baseline ≤ 4095 := by
  unfold driftedBaseline
  split <;> omega

section
variable {d : ChannelDynamics} (h : DynamicsLaw d) (hf : d.state ≠ .fault)
include h hf

/-- The three steps before the handler keep the law (R15). -/
theorem takeInRange_law {raw corrected : Nat} (hr : raw ≤ 4095) (hc : corrected ≤ 4095) :
    DynamicsLaw (takeInRange raw corrected d) := by
  grind [DynamicsLaw, DynamicsInRange, CountsBelong, takeInRange_fields]

/-- An out-of-range sample keeps the law: the third one in a row takes the channel to FAULT, with every
count of the other states at 0 (R13, R14). -/
theorem outOfRangeSample_law {raw : Nat} (cause : FaultCause) (hr : raw ≤ 4095) :
    DynamicsLaw (outOfRangeSample cause raw d).dyn := by
  unfold outOfRangeSample
  dsimp only
  split
  · simp [DynamicsLaw, DynamicsInRange, CountsBelong, enterFault, ChannelState.isTouched] at h ⊢
    omega
  · grind [DynamicsLaw, DynamicsInRange, CountsBelong, quietOutcome]

/-- A calibration step keeps the law: the accumulator holds at most 4095 for each sample taken, so their
mean is at most 4095 (R30). -/
theorem calibrationStep_law {g : Settings} {corrected : Nat} (hn : g.calibrationSamples ≤ 16)
    (hc : corrected ≤ 4095) (hs : d.state = .calibrating) :
    DynamicsLaw (calibrationStep g corrected d).dyn := by
  have hmean : (d.accumulator + corrected) / (d.samplesTaken + 1) ≤ 4095 := by
    have hacc : d.accumulator ≤ 4095 * d.samplesTaken := by
      obtain ⟨⟨_, _, _, _, _, _, _, _, _, hacc, _⟩, _⟩ := h
      exact hacc
    exact Nat.div_le_of_le_mul (by rw [Nat.mul_comm]; omega)
  unfold calibrationStep
  dsimp only
  split <;>
    grind [DynamicsLaw, DynamicsInRange, CountsBelong, quietOutcome, ChannelState.isTouched]

/-- A drift-eligible sample keeps the law (R35 to R37). -/
theorem driftStep_law {g : Settings} {corrected : Nat} (hn : g.driftInterval ≤ 255)
    (hc : corrected ≤ 4095) (hs : d.state = .quiet) :
    DynamicsLaw (driftStep g corrected d).dyn := by
  have hb : driftedBaseline g.driftStep corrected d.baseline ≤ 4095 := driftedBaseline_le hc h.1.1
  unfold driftStep
  dsimp only
  split
  · split <;>
      grind [DynamicsLaw, DynamicsInRange, CountsBelong, quietOutcome, ChannelState.isTouched]
  · grind [DynamicsLaw, DynamicsInRange, CountsBelong, quietOutcome, ChannelState.isTouched]

/-- An inverted sample keeps the law (R38). -/
theorem invertedStep_law {g : Settings} {corrected : Nat} (hn : g.invertedRounds ≤ 255)
    (hc : corrected ≤ 4095) (hs : d.state = .quiet) :
    DynamicsLaw (invertedStep g corrected d).dyn := by
  unfold invertedStep
  dsimp only
  split <;>
    grind [DynamicsLaw, DynamicsInRange, CountsBelong, quietOutcome, ChannelState.isTouched]

/-- The QUIET handler keeps the law (R16). -/
theorem quietHandler_law {c : ChannelConfig} {g : Settings} {corrected : Nat} {delta : Int}
    (hg : SettingsInRange g) (hc : corrected ≤ 4095) (hs : d.state = .quiet) :
    DynamicsLaw (quietHandler c g corrected delta d).dyn := by
  have hz : DynamicsLaw { d with debounce := 0 } := by
    grind [DynamicsLaw, DynamicsInRange, CountsBelong]
  obtain ⟨_, _, _, _, _, _, _, hdrift, _, _, hinv, _, _⟩ := hg
  unfold quietHandler
  split
  · split <;>
      grind [DynamicsLaw, DynamicsInRange, CountsBelong, quietOutcome, enterTouched,
        ChannelState.isTouched]
  · split
    · exact invertedStep_law hz hf hinv.2 hc hs
    · exact driftStep_law hz hf hdrift.2 hc hs

/-- The ARMING handler keeps the law (R17). -/
theorem armingHandler_law {c : ChannelConfig} {delta : Int} (hn : c.debounceIn ≤ 15)
    (hs : d.state = .arming) : DynamicsLaw (armingHandler c delta d).dyn := by
  unfold armingHandler
  split
  · split <;>
      grind [DynamicsLaw, DynamicsInRange, CountsBelong, quietOutcome, enterTouched,
        ChannelState.isTouched]
  · grind [DynamicsLaw, DynamicsInRange, CountsBelong, quietOutcome, enterQuiet,
      ChannelState.isTouched]

/-- The threshold test in TOUCHED keeps the law (R19). -/
theorem touchedTest_law {c : ChannelConfig} {delta : Int} (hs : d.state = .touched) :
    DynamicsLaw (touchedTest c delta d) := by
  unfold touchedTest
  split
  · split <;>
      grind [DynamicsLaw, DynamicsInRange, CountsBelong, enterQuiet, ChannelState.isTouched]
  · grind [DynamicsLaw, DynamicsInRange, CountsBelong, ChannelState.isTouched]

/-- The threshold test in RELEASING keeps the law (R20). -/
theorem releasingTest_law {c : ChannelConfig} {delta : Int} (hn : c.debounceOut ≤ 15)
    (hs : d.state = .releasing) : DynamicsLaw (releasingTest c delta d) := by
  unfold releasingTest
  split
  · split <;>
      grind [DynamicsLaw, DynamicsInRange, CountsBelong, enterQuiet, ChannelState.isTouched]
  · grind [DynamicsLaw, DynamicsInRange, CountsBelong, ChannelState.isTouched]

/-- A sample that finds the channel in touch keeps the law if its threshold test does (R18, R39). -/
theorem touchHandler_law {g : Settings} {corrected : Nat} {test : ChannelDynamics → ChannelDynamics}
    (hc : corrected ≤ 4095) (hs : d.state.isTouched = true)
    (ht : ∀ e, DynamicsLaw e → e.state = d.state → DynamicsLaw (test e)) :
    DynamicsLaw (touchHandler g corrected test d).dyn := by
  have h1 : DynamicsLaw { d with onTime := min 65535 (d.onTime + 1) } := by
    grind [DynamicsLaw, DynamicsInRange, CountsBelong]
  unfold touchHandler
  dsimp only
  split
  · grind [DynamicsLaw, DynamicsInRange, CountsBelong, stuckRecalibration, ChannelState.isTouched]
  · exact ht _ h1 rfl

/-- The handler of the channel's state keeps the law (R15). -/
theorem stateHandler_law {c : ChannelConfig} {g : Settings} {corrected : Nat} {delta : Int}
    (hcfg : ConfigInRange c) (hg : SettingsInRange g) (hc : corrected ≤ 4095) :
    DynamicsLaw (stateHandler c g corrected delta d).dyn := by
  obtain ⟨_, _, _, _, hin, hout⟩ := hcfg
  have hn : g.calibrationSamples ≤ 16 := by
    obtain ⟨_, _, _, _, _, _, hn, _⟩ := hg
    omega
  unfold stateHandler
  split <;> rename_i hs
  · exact calibrationStep_law h hf hn hc hs
  · exact quietHandler_law h hf hg hc hs
  · exact armingHandler_law h hf hin.2 hs
  · refine touchHandler_law h hf hc (by simp [hs, ChannelState.isTouched]) fun e he hes => ?_
    exact touchedTest_law he (hes ▸ hf) (hes.trans hs)
  · refine touchHandler_law h hf hc (by simp [hs, ChannelState.isTouched]) fun e he hes => ?_
    exact releasingTest_law he (hes ▸ hf) hout.2 (hes.trans hs)
  · exact h
  · exact h

/-- A sample event of a channel in sensing keeps the law (R12). -/
theorem appliedSample_law {c : ChannelConfig} {g : Settings} {offset : Int} {raw : Nat}
    (hcfg : ConfigInRange c) (hg : SettingsInRange g) (hr : raw ≤ 4095) :
    DynamicsLaw (appliedSample c g offset raw d).dyn := by
  unfold appliedSample
  split
  · have hc := correctedCount_le offset c.referenceWeight raw
    exact stateHandler_law (takeInRange_law h hf hr hc) (by simpa using hf) hcfg hg hc
  · exact outOfRangeSample_law h hf .low hr
  · exact outOfRangeSample_law h hf .high hr

end

/-- No handler leaves a channel in OFF that it did not find there. -/
theorem stateHandler_ne_off {c : ChannelConfig} {g : Settings} {corrected : Nat} {delta : Int}
    {d : ChannelDynamics} (h : d.state ≠ .off) :
    (stateHandler c g corrected delta d).dyn.state ≠ .off := by
  unfold stateHandler
  split <;>
    grind [quietOutcome, calibrationStep, quietHandler, invertedStep, driftStep, enterTouched,
      armingHandler, enterQuiet, touchHandler, stuckRecalibration, touchedTest, releasingTest]

theorem appliedSample_ne_off {c : ChannelConfig} {g : Settings} {offset : Int} {raw : Nat}
    {d : ChannelDynamics} (h : d.state ≠ .off) : (appliedSample c g offset raw d).dyn.state ≠ .off := by
  unfold appliedSample
  split
  · exact stateHandler_ne_off (by simpa using h)
  all_goals grind [outOfRangeSample, enterFault, quietOutcome]

/-! ### One record -/

/-- A record obeys its law when its configuration and its dynamic fields do and its role and OFF agree. -/
theorem channelLaw_iff (c : Channel) :
    ChannelLaw c ↔ ConfigInRange c.config ∧ DynamicsLaw c.dyn ∧ OffOutsideSense c := by
  simp [ChannelLaw, DynamicsLaw, and_assoc]

/-- Cleared dynamic fields obey their law in every state (R1). -/
theorem cleared_law (state : ChannelState) : DynamicsLaw (.cleared state) := by
  simp [DynamicsLaw, DynamicsInRange, CountsBelong, ChannelDynamics.cleared]

/-- A channel in OFF is one that is not SENSE (R1). -/
theorem role_of_state_ne_off {c : Channel} (h : OffOutsideSense c) (hs : c.dyn.state ≠ .off) :
    c.config.role = .sense := by
  by_contra hr
  exact hs (by rw [h.1 hr]; rfl)

/-- A record whose dynamic fields change within sensing obeys the law if they obey theirs. -/
theorem channelLaw_withDyn {c : Channel} (h : ChannelLaw c) {d : ChannelDynamics}
    (hd : DynamicsLaw d) (hr : c.config.role = .sense) (hs : d.state ≠ .off) :
    ChannelLaw { c with dyn := d } := by
  rw [channelLaw_iff]
  exact ⟨h.1, hd, fun hn => absurd hr hn, fun _ => hs⟩

/-- A sample event keeps the law of the record (R12). -/
theorem channelLaw_sample {c : Channel} (h : ChannelLaw c) {g : Settings} (hg : SettingsInRange g)
    (offset : Int) {raw : Nat} (hr : raw ≤ 4095) :
    ChannelLaw { c with dyn := (sampleEvent g offset raw c).dyn } := by
  have hl := (channelLaw_iff c).mp h
  by_cases hs : c.dyn.state = .off ∨ c.dyn.state = .fault
  · rw [sampleEvent_none g offset raw hs]
    exact h
  · obtain ⟨hoff, hfault⟩ := not_or.mp hs
    rw [sampleEvent_sensing g offset raw hoff hfault]
    exact channelLaw_withDyn h (appliedSample_law hl.2.1 hfault hl.1 hg hr)
      (role_of_state_ne_off hl.2.2 hoff) (appliedSample_ne_off hoff)

/-- The start of a calibration keeps the law of a SENSE record (R9, R32). -/
theorem channelLaw_startCalibration {c : Channel} (h : ChannelLaw c) (hr : c.config.role = .sense) :
    ChannelLaw { c with dyn := startCalibration c.dyn } := by
  refine channelLaw_withDyn h ?_ hr (by simp [startCalibration])
  obtain ⟨-, hd, hb, -⟩ := h
  grind [DynamicsLaw, DynamicsInRange, CountsBelong, startCalibration, ChannelState.isTouched]

/-- A record whose fields are written with valid operands obeys the law (R7, R9). -/
theorem channelLaw_reconfigure {c : Channel} (h : ChannelLaw c) {f : ChannelOperands}
    (hf : channelFieldsValid f = true) : ChannelLaw (reconfigure f c) := by
  have hcfg : ConfigInRange (configOf c.config.role f) := by
    simp only [channelFieldsValid, Bool.and_eq_true, decide_eq_true_eq] at hf
    simp only [ConfigInRange, configOf]
    omega
  have hk : ∀ d, ChannelLaw { c with dyn := d } →
      ChannelLaw { config := configOf c.config.role f, dyn := d } :=
    fun d ⟨_, hd, hb, ho⟩ => ⟨hcfg, hd, hb, ho⟩
  unfold reconfigure
  split
  · rename_i hs
    exact hk _ (channelLaw_startCalibration h hs.1)
  · exact hk _ h

/-- A change of role keeps the law (R5). -/
theorem channelLaw_changeRole {c : Channel} (h : ChannelLaw c) (role : Role) :
    ChannelLaw (changeRole role c) := by
  obtain ⟨_, _, e⟩ | ⟨_, e⟩ := changeRole_cases role c <;> rw [e]
  · exact h
  · rw [channelLaw_iff]
    refine ⟨h.1, cleared_law _, fun hr => ?_, fun hr => ?_⟩
    · simp only at hr
      simp [hr]
    · simp only at hr
      simp [hr, ChannelDynamics.cleared]

theorem channelLaw_calibrateChannel {c : Channel} (h : ChannelLaw c) (mask : BitVec 32)
    (i : Fin 32) : ChannelLaw (calibrateChannel mask i c) := by
  unfold calibrateChannel
  split
  · rename_i hc
    simp only [calibrates, Bool.and_eq_true, beq_iff_eq] at hc
    exact channelLaw_startCalibration h hc.2
  · exact h

/-- The forcing to QUIET keeps the law (R158). -/
theorem channelLaw_quietUnwatched {c : Channel} (h : ChannelLaw c) :
    ChannelLaw (quietUnwatched c) := by
  unfold quietUnwatched
  split
  · rename_i hc
    refine channelLaw_withDyn h ?_ hc.1 (by simp)
    obtain ⟨-, hd, hb, -⟩ := h
    grind [DynamicsLaw, DynamicsInRange, CountsBelong, ChannelState.isTouched]
  · exact h

theorem channelLaw_scanResetChannel {c : Channel} (h : ChannelLaw c) :
    ChannelLaw (scanResetChannel c) := by
  rw [channelLaw_iff]
  refine ⟨h.1, cleared_law _, fun hr => ?_, fun hr => ?_⟩
  · simp only [scanResetChannel] at hr ⊢
    simp [hr]
  · simp only [scanResetChannel] at hr ⊢
    simp [hr, ChannelDynamics.cleared]

/-- The mark enters no law but that of OFF, where it is none already (R83). -/
theorem channelLaw_clearMark {c : Channel} (h : ChannelLaw c) : ChannelLaw (clearMark c) := by
  obtain ⟨hc, hd, hb, ho, hs⟩ := h
  refine ⟨hc, hd, hb, fun hr => ?_, hs⟩
  simp only [clearMark] at hr ⊢
  rw [ho hr]
  rfl

theorem channelLaw_fullReset : ChannelLaw .fullReset := by
  rw [channelLaw_iff]
  refine ⟨?_, cleared_law _, fun _ => rfl, fun hr => ?_⟩
  · simp [ConfigInRange, Channel.fullReset, ChannelConfig.fullReset]
  · simp [Channel.fullReset, ChannelConfig.fullReset] at hr

/-! ### Settings -/

theorem settingsInRange_fullReset : SettingsInRange .fullReset := by
  simp [SettingsInRange, Settings.fullReset]

/-- The validation of R178 passes exactly the records whose settings lie in their ranges, the idle
sense drive being a code of its own. -/
theorem settingsValid_iff (r : SettingsOperands) :
    settingsValid r = true ↔ SettingsInRange (settingsOf r) ∧ r.idleSenseDrive.toNat ≤ 1 := by
  have h1 := r.holdLimit.isLt
  have h2 := r.noiseLimit.isLt
  have h3 := r.driftInterval.isLt
  have h4 := r.invertedRounds.isLt
  have h5 := r.maxOn.isLt
  have h6 := r.autoRetire.isLt
  simp only [settingsValid, SettingsInRange, settingsOf, Bool.and_eq_true, decide_eq_true_eq,
    List.contains_eq_mem, List.mem_cons, List.not_mem_nil, or_false]
  omega

/-! ### All commands -/

/-- The law rests on the settings and the channels alone. -/
theorem channelTableLaw_congr {s t : State} (hg : t.settings = s.settings)
    (hc : t.channels = s.channels) (hs : ChannelTableLaw s) : ChannelTableLaw t := by
  unfold ChannelTableLaw
  rw [hg, hc]
  exact hs

theorem channelTableLaw_ofTables : OfTables ChannelTableLaw := fun _ _ h hs =>
  channelTableLaw_congr h.settings h.channels hs

/-- A table whose records each come from a record that obeys its law, by a change that keeps it. -/
theorem channelTableLaw_mapAt {s : State} (hs : ChannelTableLaw s) {f : Fin 32 → Channel → Channel}
    (hf : ∀ i c, ChannelLaw c → ChannelLaw (f i c)) :
    ChannelTableLaw { s with channels := Table.mapAt f s.channels } :=
  ⟨hs.1, fun i => by simpa using hf i _ (hs.2 i)⟩

/-- A table with one record written that obeys its law. -/
theorem channelTableLaw_write {s : State} (hs : ChannelTableLaw s) (i : Fin 32) {c : Channel}
    (hc : ChannelLaw c) : ChannelTableLaw { s with channels := Table.write s.channels i c } := by
  refine ⟨hs.1, fun j => ?_⟩
  simp only [Table.read_write]
  split
  · exact hc
  · exact hs.2 j

theorem channelTableLaw_sampleEffect {n : BitVec 12} {s u : State} (h : SampleEffect n.toNat s u)
    (hs : ChannelTableLaw s) : ChannelTableLaw u := by
  cases h with
  | none => exact hs
  | @taken cv i =>
    have hn : n.toNat ≤ 4095 := by omega
    refine channelTableLaw_ofTables _ _ ?_
      (channelTableLaw_write hs i (channelLaw_sample (hs.2 i) hs.1 s.reference.offset hn))
    constructor <;> simp

theorem channelTableLaw_roundEnd {s : State} (hs : ChannelTableLaw s) :
    ChannelTableLaw (roundEndProcessing s) :=
  channelTableLaw_congr (by simp) (by simp)
    (channelTableLaw_mapAt hs fun _ _ => channelLaw_clearMark)

/-- Every effect on the tables keeps their law. -/
theorem channelTableLaw_tableEffect (s : State) (c : Instr) (t : State) (h : TableEffect s c t)
    (hs : ChannelTableLaw s) : ChannelTableLaw t := by
  cases h with
  | same h => exact channelTableLaw_ofTables _ _ h hs
  | fullReset slot hc h =>
    refine channelTableLaw_ofTables _ _ h ⟨settingsInRange_fullReset, fun i => ?_⟩
    simpa [fullResetBlocks] using channelLaw_fullReset
  | scanReset h =>
    exact channelTableLaw_ofTables _ _ h
      (channelTableLaw_mapAt hs fun _ _ => channelLaw_scanResetChannel)
  | resetStands h => exact channelTableLaw_ofTables _ _ h hs
  | settings hv h =>
    exact channelTableLaw_ofTables _ _ h ⟨((settingsValid_iff _).mp hv).1, hs.2⟩
  | @channel b i f _ hi hf h =>
    exact channelTableLaw_ofTables _ _ h
      (channelTableLaw_write hs i (channelLaw_reconfigure (hs.2 i) hf))
  | @role b code i r _ hi hm h =>
    exact channelTableLaw_ofTables _ _ h
      (channelTableLaw_write hs i (channelLaw_changeRole (hs.2 i) r))
  | @calibrate mask flag _ h =>
    exact channelTableLaw_ofTables _ _ h
      (channelTableLaw_mapAt hs fun i _ hc => channelLaw_calibrateChannel hc mask i)
  | defineZone ho hr h => exact channelTableLaw_ofTables _ _ h hs
  | deleteZone hz h => exact channelTableLaw_ofTables _ _ h hs
  | acknowledge h => exact channelTableLaw_ofTables _ _ h hs
  | quieted h =>
    exact channelTableLaw_ofTables _ _ h
      (channelTableLaw_mapAt hs fun _ _ => channelLaw_quietUnwatched)
  | completed hu ht =>
    exact ht.keeps channelTableLaw_ofTables (fun _ => channelTableLaw_roundEnd)
      (fun _ hu => channelTableLaw_mapAt hu fun _ _ => channelLaw_quietUnwatched)
      (channelTableLaw_sampleEffect hu hs)

/-- Settles O54. -/
theorem stepKeepsChannelTableLaw : Obligations.StepKeepsChannelTableLaw := fun _ _ hs hst =>
  step_keeps_ofTables channelTableLaw_ofTables channelTableLaw_tableEffect hs hst

end Sys2Proof.Machine
end

section
/-! PROOFS. The law of zone membership: the members of a zone stay as DEFINE ZONE wrote them, and every
command keeps the roles of members (R44, R45). -/

namespace Sys2Proof.Machine

/-! ### Roles -/

/-- Two Channel Tables give every channel the same role. -/
def SameRoles (a b : Vector Channel 32) : Prop :=
  ∀ i, (Table.read b i).config.role = (Table.read a i).config.role

theorem SameRoles.mapAt {f : Fin 32 → Channel → Channel}
    (hf : ∀ i c, (f i c).config.role = c.config.role) (a : Vector Channel 32) :
    SameRoles a (Table.mapAt f a) := fun i => by simp [hf]

theorem SameRoles.write {a : Vector Channel 32} {i : Fin 32} {c : Channel}
    (hc : c.config.role = (Table.read a i).config.role) : SameRoles a (Table.write a i c) := by
  intro j
  rw [Table.read_write]
  split
  · rename_i h
    rw [← h, hc]
  · rfl

@[simp] theorem role_quietUnwatched (c : Channel) :
    (quietUnwatched c).config.role = c.config.role := by
  unfold quietUnwatched
  split <;> rfl

@[simp] theorem role_calibrateChannel (mask : BitVec 32) (i : Fin 32) (c : Channel) :
    (calibrateChannel mask i c).config.role = c.config.role := by
  unfold calibrateChannel
  split <;> rfl

@[simp] theorem role_clearMark (c : Channel) : (clearMark c).config.role = c.config.role := rfl

@[simp] theorem role_scanResetChannel (c : Channel) :
    (scanResetChannel c).config.role = c.config.role := rfl

@[simp] theorem role_reconfigure (f : ChannelOperands) (c : Channel) :
    (reconfigure f c).config.role = c.config.role := rfl

@[simp] theorem role_changeRole (role : Role) (c : Channel) :
    (changeRole role c).config.role = role := by
  obtain ⟨h, hr, e⟩ | ⟨_, e⟩ := changeRole_cases role c <;> rw [e]
  rw [h, hr]

/-! ### Member lists -/

/-- The member list of a zone record; a FREE zone has none (R43). -/
def membersAt (s : State) (i : Fin 16) : Option (ZoneKind × List (Fin 32)) :=
  (Table.read s.zones i).map fun z => (z.kind, z.members)

theorem membersAt_eq_some {s : State} {i : Fin 16} {k : ZoneKind} {ms : List (Fin 32)} :
    membersAt s i = some (k, ms) ↔
      ∃ z, Table.read s.zones i = some z ∧ z.kind = k ∧ z.members = ms := by
  simp [membersAt]

/-- The law of zone membership is one of the kinds and the member lists. -/
theorem membershipLaw_iff (s : State) :
    MembershipLaw s ↔
      (∀ i k ms, membersAt s i = some (k, ms) → memberCountAllowed k ms.length = true ∧ ms.Nodup
          ∧ ∀ m ∈ ms, (Table.read s.channels m).config.role = .sense)
        ∧ ∀ i j k l ms ns, membersAt s i = some (k, ms) → membersAt s j = some (l, ns) → i ≠ j →
            ∀ m ∈ ms, m ∉ ns := by
  simp only [membersAt_eq_some]
  constructor
  · rintro ⟨h, h'⟩
    refine ⟨?_, ?_⟩
    · rintro i _ _ ⟨z, hz, rfl, rfl⟩
      exact h i z hz
    · rintro i j _ _ _ _ ⟨z, hz, rfl, rfl⟩ ⟨w, hw, rfl, rfl⟩
      exact h' i j z w hz hw
  · rintro ⟨h, h'⟩
    exact ⟨fun i z hz => h i _ _ ⟨z, hz, rfl, rfl⟩,
      fun i j z w hz hw => h' i j _ _ _ _ ⟨z, hz, rfl, rfl⟩ ⟨w, hw, rfl, rfl⟩⟩

/-- The law holds of a state whose zones keep their members, or are FREE, and whose members keep
SENSE. -/
theorem MembershipLaw.mono {s t : State} (hs : MembershipLaw s)
    (hz : ∀ i, membersAt t i = membersAt s i ∨ membersAt t i = none)
    (hr : ∀ m, (∃ i k ms, membersAt s i = some (k, ms) ∧ m ∈ ms) →
      (Table.read s.channels m).config.role = .sense →
      (Table.read t.channels m).config.role = .sense) : MembershipLaw t := by
  rw [membershipLaw_iff] at hs ⊢
  obtain ⟨h, h'⟩ := hs
  have back : ∀ {i p}, membersAt t i = some p → membersAt s i = some p := by
    intro i p hp
    obtain e | e := hz i
    · rw [← e, hp]
    · rw [e] at hp
      cases hp
  refine ⟨fun i k ms hi => ?_, fun i j k l ms ns hi hj => h' i j k l ms ns (back hi) (back hj)⟩
  obtain ⟨hc, hn, hm⟩ := h i k ms (back hi)
  exact ⟨hc, hn, fun m hmem => hr m ⟨i, k, ms, back hi, hmem⟩ (hm m hmem)⟩

/-- The members of every zone and the roles stay, so the law stays. -/
theorem MembershipLaw.same {s t : State} (hs : MembershipLaw s)
    (hz : ∀ i, membersAt t i = membersAt s i) (hr : SameRoles s.channels t.channels) :
    MembershipLaw t :=
  hs.mono (fun i => .inl (hz i)) fun m _ hm => (hr m).trans hm

theorem membersAt_congr {s t : State} (h : t.zones = s.zones) (i : Fin 16) :
    membersAt t i = membersAt s i := by simp [membersAt, h]

theorem membershipLaw_ofTables : OfTables MembershipLaw := fun _ _ h hs =>
  hs.same (membersAt_congr h.zones) fun i => by rw [h.channels]

/-! ### Round-end processing -/

/-- A zone written over itself with its kind and members keeps the member lists. -/
theorem membersAt_write {s t : State} {i : Fin 16} {z w : Zone}
    (ht : t.zones = Table.write s.zones i (some w)) (hz : Table.read s.zones i = some z)
    (hk : w.kind = z.kind) (hm : w.members = z.members) (j : Fin 16) :
    membersAt t j = membersAt s j := by
  simp only [membersAt, ht, Table.read_write]
  split
  · rename_i h
    subst h
    simp [hz, hk, hm]
  · rfl

/-- The resolution of a zone keeps every member list (R77). -/
theorem membersAt_resolveZone (s : State) (i j : Fin 16) :
    membersAt (resolveZone s i) j = membersAt s j := by
  unfold resolveZone
  split
  · rename_i z hz
    obtain ⟨id, _, _, h⟩ | ⟨_, _, h⟩ | ⟨id, _, _, h⟩ | ⟨_, _, _, h⟩ | ⟨_, _, _, h⟩ :=
      resolveDefined_cases i z s <;> rw [h]
    · exact membersAt_congr rfl j
    · unfold serveZone
      split
      · exact membersAt_write
          (w := { z with current := some _, pending := false, dropped := false }) rfl hz rfl rfl j
      · exact membersAt_write (w := { z with pending := true }) rfl hz rfl rfl j
    · exact membersAt_write (w := { z with current := none }) rfl hz rfl rfl j
    · exact membersAt_write (w := { z with pending := false, dropped := true }) rfl hz rfl rfl j
  · rfl

theorem membershipLaw_roundEnd {s : State} (hs : MembershipLaw s) :
    MembershipLaw (roundEndProcessing s) := by
  refine roundEndProcessing_keeps (P := MembershipLaw) ?_ ?_ ?_ ?_ hs
  · exact fun u hu => hu.same (membersAt_congr (by simp)) fun i => by simp
  · exact fun u hu => hu.same (membersAt_congr (by simp)) fun i => by simp
  · exact fun u i hu => hu.same (membersAt_resolveZone u i) fun j => by simp
  · exact fun u hu => hu.same (membersAt_congr (by simp)) fun i => by simp

/-! ### All commands -/

theorem membershipLaw_quietChannels {s : State} (hs : MembershipLaw s) :
    MembershipLaw (quietChannels s) :=
  hs.same (membersAt_congr (by simp))
    (SameRoles.mapAt (fun _ => role_quietUnwatched) _)

theorem membershipLaw_sampleEffect {raw : Nat} {s u : State} (h : SampleEffect raw s u)
    (hs : MembershipLaw s) : MembershipLaw u := by
  cases h with
  | none => exact hs
  | taken =>
    refine hs.same (membersAt_congr (by simp)) ?_
    simp only [applySample_fields]
    exact SameRoles.write rfl

/-- A free zone that DEFINE ZONE defines has the members it checked (R45, R48, R49). -/
theorem membershipLaw_defineZone {s : State} (hs : MembershipLaw s) {b kind th : Byte}
    {ms : List Byte} {o : ZoneOperands} (ho : zoneOperands b kind th ms = some o)
    (hr : defineRefusal o s = none) :
    MembershipLaw { s with zones := Table.write s.zones o.index (some (newZone o)) } := by
  have hallowed : memberCountAllowed o.kind o.members.length = true ∧ o.members.Nodup := by
    unfold zoneOperands at ho
    split at ho
    · split at ho
      · rename_i hc
        cases ho
        simpa using hc
      · cases ho
    · cases ho
  have hchecked : (∀ m ∈ o.members, (Table.read s.channels m).config.role = .sense)
      ∧ ∀ m ∈ o.members, ¬ isMember m s = true := by
    unfold defineRefusal at hr
    split_ifs at hr with h1 h2 h3
    simp only [List.any_eq_true, not_exists, not_and, bne_iff_ne, ne_eq, not_not] at h2 h3
    exact ⟨h2, h3⟩
  obtain ⟨hsense, hmember⟩ := hchecked
  have hother : ∀ m ∈ o.members, ∀ j w, Table.read s.zones j = some w → m ∉ w.members :=
    fun m hm j w hw hmw => hmember m hm ((isMember_iff m s).mpr ⟨j, w, hw, hmw⟩)
  obtain ⟨h, h'⟩ := hs
  refine ⟨fun i z hz => ?_, fun i j z w hz hw hij m hm => ?_⟩
  · simp only [Table.read_write] at hz
    split at hz
    · cases hz
      exact ⟨hallowed.1, hallowed.2, hsense⟩
    · exact h i z hz
  · simp only [Table.read_write] at hz hw
    split at hz <;> split at hw
    · omega
    · cases hz
      exact hother m hm j w hw
    · cases hw
      exact fun hmo => hother m hmo i z hz hm
    · exact h' i j z w hz hw hij m hm

/-- An accepted SET ROLE keeps the law: no member leaves SENSE (R5, R45). -/
theorem membershipLaw_setRole {s : State} (hs : MembershipLaw s) {i : Fin 32} {r : Role}
    (hm : ¬ (isMember i s = true ∧ r ≠ .sense)) :
    MembershipLaw { s with
      channels := Table.write s.channels i (changeRole r (Table.read s.channels i)) } := by
  refine hs.mono (fun _ => .inl rfl) ?_
  rintro m ⟨j, k, ms, hj, hmem⟩ hsense
  simp only [Table.read_write]
  split
  · rename_i him
    obtain ⟨z, hz, _, rfl⟩ := membersAt_eq_some.mp hj
    rw [role_changeRole]
    by_contra hr
    exact hm ⟨(isMember_iff i s).mpr ⟨j, z, hz, him ▸ hmem⟩, hr⟩
  · exact hsense

/-- A zone that is removed or reset takes no member. -/
theorem membersAt_mapReset (s t : State)
    (h : t.zones = Table.mapAt (fun _ z => z.map scanResetZone) s.zones) (i : Fin 16) :
    membersAt t i = membersAt s i := by
  simp only [membersAt, h, Table.read_mapAt, Option.map_map]
  rfl

/-- Every effect on the tables keeps the law of zone membership. -/
theorem membershipLaw_tableEffect (s : State) (c : Instr) (t : State) (h : TableEffect s c t)
    (hs : MembershipLaw s) : MembershipLaw t := by
  have tables {u : State} (h : SameTables u t) (hu : MembershipLaw u) : MembershipLaw t :=
    membershipLaw_ofTables _ _ h hu
  cases h with
  | same h => exact tables h hs
  | fullReset slot hc h =>
    refine tables h ⟨fun i z hz => ?_, fun i j z w hz => ?_⟩ <;> simp [fullResetBlocks] at hz
  | scanReset h =>
    exact tables h (hs.same (membersAt_mapReset s _ rfl)
      (SameRoles.mapAt (fun _ => role_scanResetChannel) _))
  | resetStands h => exact tables h (hs.same (membersAt_mapReset s _ rfl) fun _ => rfl)
  | settings hv h => exact tables h hs
  | channel hi hf h =>
    exact tables h
      (hs.same (membersAt_congr rfl) (SameRoles.write (role_reconfigure _ _)))
  | role hi hm h => exact tables h (membershipLaw_setRole hs hm)
  | calibrate h =>
    exact tables h (hs.same (membersAt_congr rfl)
      (SameRoles.mapAt (role_calibrateChannel _) _))
  | defineZone ho hr h => exact tables h (membershipLaw_defineZone hs ho hr)
  | deleteZone hz h =>
    refine tables h (hs.mono (fun j => ?_) fun _ _ hm => hm)
    simp only [membersAt, Table.read_write]
    split
    · exact .inr rfl
    · exact .inl rfl
  | acknowledge h => exact tables h hs
  | quieted h => exact tables h (membershipLaw_quietChannels hs)
  | completed hu ht =>
    exact ht.keeps membershipLaw_ofTables (fun _ => membershipLaw_roundEnd)
      (fun _ => membershipLaw_quietChannels) (membershipLaw_sampleEffect hu hs)

/-- Settles O55. -/
theorem stepKeepsMembershipLaw : Obligations.StepKeepsMembershipLaw := fun _ _ hs hst =>
  step_keeps_ofTables membershipLaw_ofTables membershipLaw_tableEffect hs hst

end Sys2Proof.Machine
end

section
/-! PROOFS. The Contact Table: the id given to a new record, ageing and expiry, and the law of the table
that every command keeps (R63 to R67, R70, R75, R76). -/

namespace Sys2Proof.Machine

/-! ### The id for a new record (R67) -/

/-- The candidate passed over `k` others, counting from the next-id counter with 255 followed by 1. -/
def idCandidate (nextId k : Nat) : Nat := (nextId - 1 + k) % 255 + 1

theorem idCandidate_range (nextId k : Nat) :
    1 ≤ idCandidate nextId k ∧ idCandidate nextId k ≤ 255 := by
  unfold idCandidate
  omega

theorem idCandidate_zero {nextId : Nat} (h : 1 ≤ nextId) (h' : nextId ≤ 255) :
    idCandidate nextId 0 = nextId := by
  unfold idCandidate
  omega

theorem idAfter_idCandidate (nextId k : Nat) :
    idAfter (idCandidate nextId k) = idCandidate nextId (k + 1) := by
  unfold idAfter idCandidate
  split <;> omega

/-- Fewer than 256 candidates in a row differ. -/
theorem idCandidate_inj {nextId j k : Nat} (hj : j < 255) (hk : k < 255)
    (h : idCandidate nextId j = idCandidate nextId k) : j = k := by
  unfold idCandidate at h
  omega

/-- Some live record carries the id. -/
def Carried (cs : List Contact) (id : Nat) : Prop := ∃ c ∈ cs, c.id = id

theorem any_id_eq_true {cs : List Contact} {id : Nat} :
    (cs.any fun c => c.id == id) = true ↔ Carried cs id := by simp [Carried]

/-- The search passes over carried candidates, as many as it may, and stops at one that is not. -/
theorem freeIdFrom_spec (cs : List Contact) (nextId fuel k : Nat) :
    ∃ p ≤ fuel, freeIdFrom cs fuel (idCandidate nextId k) = idCandidate nextId (k + p)
      ∧ (∀ j < p, Carried cs (idCandidate nextId (k + j)))
      ∧ (p < fuel → ¬ Carried cs (idCandidate nextId (k + p))) := by
  induction fuel generalizing k with
  | zero => exact ⟨0, le_refl _, rfl, by simp, by simp⟩
  | succ fuel ih =>
    unfold freeIdFrom
    split
    · rename_i hc
      rw [any_id_eq_true] at hc
      obtain ⟨p, hp, he, hcar, hfree⟩ := ih (k + 1)
      have shift : ∀ j, k + 1 + j = k + (j + 1) := fun j => by omega
      rw [shift] at he hfree
      refine ⟨p + 1, by omega, by rw [idAfter_idCandidate, he], ?_, fun h => hfree (by omega)⟩
      intro j hj
      cases j with
      | zero => exact hc
      | succ j => exact shift j ▸ hcar j (by omega)
    · rename_i hc
      rw [any_id_eq_true] at hc
      exact ⟨0, Nat.zero_le _, rfl, by simp, fun _ => hc⟩

/-- A table does not carry more different ids than it has records. -/
theorem exists_not_carried (cs : List Contact) (nextId : Nat) (h : cs.length < 255) :
    ∃ k ≤ cs.length, ¬ Carried cs (idCandidate nextId k) := by
  by_contra hall
  push Not at hall
  have hsub : (Finset.range (cs.length + 1)).image (idCandidate nextId)
      ⊆ (cs.map fun c => c.id).toFinset := by
    intro id hid
    obtain ⟨k, hk, rfl⟩ := Finset.mem_image.mp hid
    obtain ⟨c, hc, he⟩ := hall k (by simpa [Nat.lt_succ_iff] using hk)
    simpa using ⟨c, hc, he⟩
  have hinj : Set.InjOn (idCandidate nextId) (Finset.range (cs.length + 1)) := by
    intro j hj k hk
    simp only [Finset.coe_range, Set.mem_Iio] at hj hk
    exact idCandidate_inj (by omega) (by omega)
  have hcard := Finset.card_le_card hsub
  rw [Finset.card_image_of_injOn hinj, Finset.card_range] at hcard
  have hlen := (cs.map fun c => c.id).toFinset_card_le
  rw [List.length_map] at hlen
  omega

/-- The id found is the first candidate that no record carries. -/
theorem freeId_spec {cs : List Contact} {nextId : Nat} (hn : cs.length < 255) (h : 1 ≤ nextId)
    (h' : nextId ≤ 255) :
    ∃ p, freeId cs nextId = idCandidate nextId p
      ∧ (∀ j < p, Carried cs (idCandidate nextId j)) ∧ ¬ Carried cs (freeId cs nextId) := by
  obtain ⟨p, hp, he, hcar, hfree⟩ := freeIdFrom_spec cs nextId cs.length 0
  simp only [idCandidate_zero h h', Nat.zero_add] at he hcar hfree
  refine ⟨p, he, hcar, ?_⟩
  rw [freeId, he]
  by_cases hlt : p < cs.length
  · exact hfree hlt
  · obtain ⟨k, hk, hnot⟩ := exists_not_carried cs nextId hn
    have hkp : k = p := by
      by_contra hne
      exact hnot (hcar k (by omega))
    exact hkp ▸ hnot

/-- Settles O51. -/
theorem freeIdIsCarriedByNoRecord : Obligations.FreeIdIsCarriedByNoRecord := by
  intro cs nextId hn h h'
  obtain ⟨p, he, hcar, hnot⟩ := freeId_spec (cs := cs) (by omega) h h'
  refine ⟨fun c hc hid => hnot ⟨c, hc, hid⟩, ?_, ?_, p, he, hcar⟩
  · rw [he]
    exact (idCandidate_range nextId p).1
  · rw [he]
    exact (idCandidate_range nextId p).2

/-! ### Ageing and expiry (R75, R76) -/

/-- The records that leave at expiry are the LIFTED ones that are due (R76). -/
theorem expires_iff (autoRetire : Nat) (c : Contact) :
    expires autoRetire c = true ↔
      autoRetire ≠ 0 ∧ ∃ cause age, c.state = .lifted cause age ∧ autoRetire ≤ age := by
  cases h : c.state <;> simp [expires, h]

/-- Expiry raises LIFT_EXPIRED when a record leaves (R76). -/
theorem has_expiryStage (s : State) (e : StatusEvent) :
    (expiryStage s).events.has e = true ↔
      s.events.has e = true
        ∨ (e = .liftExpired ∧ ∃ c ∈ s.contacts, expires s.settings.autoRetire c = true) := by
  by_cases h : ∃ c ∈ s.contacts, expires s.settings.autoRetire c = true
  · have h' : s.contacts.any (expires s.settings.autoRetire) = true := by simpa using h
    simp [expiryStage, h', h]
  · have h' : s.contacts.any (expires s.settings.autoRetire) = false := by simpa using h
    simp [expiryStage, h', h]

/-- Expiry writes the contacts and the event set alone (R76). -/
theorem expiryStage_eq (s : State) :
    expiryStage s =
      { s with contacts := (expiryStage s).contacts, events := (expiryStage s).events } := by
  unfold expiryStage
  split <;> rfl

/-- Settles O52. -/
theorem ageingAndExpiry : Obligations.AgeingAndExpiry := by
  refine ⟨fun c => rfl, fun s => rfl, fun s => ?_⟩
  refine ⟨fun c => expires s.settings.autoRetire c = true, fun c => expires_iff _ c, ?_, ?_,
    has_expiryStage s, expiryStage_eq s⟩
  · rw [expiryStage_contacts]
    exact List.filter_sublist
  · intro c
    simp [expiryStage_contacts]

/-! ### The law of the Contact Table -/

/-- The law of a list of contacts: at most ten, ids 1..255 that differ, each state with its change. -/
structure ContactsLaw (cs : List Contact) : Prop where
  length : cs.length ≤ 10
  nodup : (cs.map fun c => c.id).Nodup
  range : ∀ c ∈ cs, 1 ≤ c.id ∧ c.id ≤ 255
  shows : ∀ c ∈ cs, StateShowsChange c

theorem contactTableLaw_iff (s : State) :
    ContactTableLaw s ↔ ContactsLaw s.contacts ∧ 1 ≤ s.nextId ∧ s.nextId ≤ 255 := by
  constructor
  · rintro ⟨hl, hn, hr, hi, hs⟩
    exact ⟨⟨hl, hn, hr, hs⟩, hi⟩
  · rintro ⟨⟨hl, hn, hr, hs⟩, hi⟩
    exact ⟨hl, hn, hr, hi, hs⟩

theorem contactsLaw_nil : ContactsLaw [] := by
  constructor <;> simp

/-- A change of records that keeps ids, and states with their changes, keeps the law. -/
theorem ContactsLaw.map {cs : List Contact} (h : ContactsLaw cs) {f : Contact → Contact}
    (hid : ∀ c ∈ cs, (f c).id = c.id) (hf : ∀ c ∈ cs, StateShowsChange (f c)) :
    ContactsLaw (cs.map f) where
  length := by simpa using h.length
  nodup := by
    rw [List.map_map, List.map_congr_left (g := fun c => c.id) hid]
    exact h.nodup
  range := by
    intro c hc
    obtain ⟨d, hd, rfl⟩ := List.mem_map.mp hc
    rw [hid d hd]
    exact h.range d hd
  shows := by
    intro c hc
    obtain ⟨d, hd, rfl⟩ := List.mem_map.mp hc
    exact hf d hd

/-- A change of the record that carries an id keeps the law. -/
theorem ContactsLaw.update {cs : List Contact} (h : ContactsLaw cs) (id : Nat)
    {f : Contact → Contact} (hid : ∀ c, (f c).id = c.id)
    (hf : ∀ c ∈ cs, c.id = id → StateShowsChange (f c)) : ContactsLaw (updateContact id f cs) := by
  refine h.map (fun c _ => ?_) (fun c hc => ?_)
  · split
    · exact hid c
    · rfl
  · split
    · rename_i he
      exact hf c hc he
    · exact h.shows c hc

/-- Records that leave take nothing from the law. -/
theorem ContactsLaw.filter {cs : List Contact} (h : ContactsLaw cs) (p : Contact → Bool) :
    ContactsLaw (cs.filter p) where
  length := (List.length_filter_le _ _).trans h.length
  nodup := h.nodup.sublist (List.filter_sublist.map _)
  range c hc := h.range c (List.mem_of_mem_filter hc)
  shows c hc := h.shows c (List.mem_of_mem_filter hc)

/-- A new record with an id that no other carries keeps the law of a table that is not full. -/
theorem ContactsLaw.append {cs : List Contact} (h : ContactsLaw cs) {c : Contact}
    (hl : cs.length < 10) (hid : ¬ Carried cs c.id) (hr : 1 ≤ c.id ∧ c.id ≤ 255)
    (hs : StateShowsChange c) : ContactsLaw (cs ++ [c]) where
  length := by
    rw [List.length_append, List.length_singleton]
    omega
  nodup := by
    rw [List.map_append, List.nodup_append]
    refine ⟨h.nodup, by simp, ?_⟩
    rintro id hm _ hc rfl
    simp only [List.map_cons, List.map_nil, List.mem_singleton] at hc
    obtain ⟨d, hd, he⟩ := List.mem_map.mp hm
    exact hid ⟨d, hd, he.trans hc⟩
  range d hd := by
    rcases List.mem_append.mp hd with hd | hd
    · exact h.range d hd
    · rw [List.mem_singleton.mp hd]
      exact hr
  shows d hd := by
    rcases List.mem_append.mp hd with hd | hd
    · exact h.shows d hd
    · rw [List.mem_singleton.mp hd]
      exact hs

/-- The state of a record shows in its change set, by state. -/
theorem stateShowsChange_congr {c d : Contact} (hs : c.state = d.state)
    (ha : d.changes.appeared = true → c.changes.appeared = true)
    (hl : d.changes.lifted = true → c.changes.lifted = true) (h : StateShowsChange d) :
    StateShowsChange c := by
  unfold StateShowsChange at h ⊢
  rw [hs]
  split
  · rename_i he
    simp only [he] at h
    exact ha h
  · trivial
  · rename_i he
    simp only [he] at h
    exact hl h

theorem stateShowsChange_lift (cause : LiftCause) (c : Contact) :
    StateShowsChange (liftContact cause c) := by
  simp [StateShowsChange, ChangeSet.add]

/-- The update by a zone records no change but MOVED (R78). -/
theorem changes_updateByZone (channels : Vector Channel 32) (z : Zone) (c : Contact) :
    (updateByZone channels z c).changes = c.changes
      ∨ (updateByZone channels z c).changes = c.changes.add .moved := by
  unfold updateByZone
  cases c.travel with
  | none => exact .inl rfl
  | some t =>
    dsimp only
    split
    · exact .inl rfl
    · split
      · exact .inr rfl
      · exact .inl rfl

theorem stateShowsChange_update (channels : Vector Channel 32) (z : Zone) {c : Contact}
    (h : StateShowsChange c) : StateShowsChange (updateByZone channels z c) := by
  refine stateShowsChange_congr (by simp) ?_ ?_ h <;>
    obtain e | e := changes_updateByZone channels z c <;> simp [e, ChangeSet.add]

theorem stateShowsChange_age {c : Contact} (h : StateShowsChange c) :
    StateShowsChange (ageContact c) := by
  unfold StateShowsChange ageContact at *
  cases hs : c.state <;> simp_all

/-- Acknowledging a DOWN or HELD record leaves it HELD (R96). -/
theorem stateShowsChange_acknowledged {c : Contact} (h : c.state.isLifted = false) :
    StateShowsChange (acknowledged c) := by
  unfold StateShowsChange acknowledged
  cases hs : c.state <;> simp_all [ContactState.isLifted]

/-- A new record has a free id, and is DOWN with APPEARED in its change set (R79). -/
@[simp] theorem newContact_fields (channels : Vector Channel 32) (id : Nat) (i : Fin 16) (z : Zone) :
    (newContact channels id i z).id = id ∧ (newContact channels id i z).zone = i
      ∧ (newContact channels id i z).state = .down := ⟨rfl, rfl, rfl⟩

theorem stateShowsChange_newContact (channels : Vector Channel 32) (id : Nat) (i : Fin 16)
    (z : Zone) : StateShowsChange (newContact channels id i z) := by
  simp [StateShowsChange, newContact_changes]

/-! ### All commands -/

theorem contactTableLaw_congr {s t : State} (hc : t.contacts = s.contacts)
    (hn : t.nextId = s.nextId) (hs : ContactTableLaw s) : ContactTableLaw t := by
  rw [contactTableLaw_iff] at hs ⊢
  rw [hc, hn]
  exact hs

theorem contactTableLaw_ofTables : OfTables ContactTableLaw := fun _ _ h hs =>
  contactTableLaw_congr h.contacts h.nextId hs

/-- The law stays where the counter stays and the contacts keep theirs. -/
theorem contactTableLaw_of_contacts {s t : State} (hs : ContactTableLaw s)
    (hn : t.nextId = s.nextId) (h : ContactsLaw s.contacts → ContactsLaw t.contacts) :
    ContactTableLaw t := by
  rw [contactTableLaw_iff] at hs ⊢
  rw [hn]
  exact ⟨h hs.1, hs.2⟩

/-- The resolution of a zone keeps the law (R77 to R82). -/
theorem contactTableLaw_resolveZone (s : State) (i : Fin 16) (hs : ContactTableLaw s) :
    ContactTableLaw (resolveZone s i) := by
  unfold resolveZone
  split
  swap
  · exact hs
  rename_i z hz
  obtain ⟨id, _, _, h⟩ | ⟨_, _, h⟩ | ⟨id, _, _, h⟩ | ⟨_, _, _, h⟩ | ⟨_, _, _, h⟩ :=
    resolveDefined_cases i z s <;> rw [h]
  · exact contactTableLaw_of_contacts hs rfl fun hc =>
      hc.update id (by simp) fun c hm _ => stateShowsChange_update _ _ (hc.shows c hm)
  · unfold serveZone
    split
    · rename_i hlen
      obtain ⟨hc, hn1, hn2⟩ := (contactTableLaw_iff s).mp hs
      obtain ⟨p, he, _, hfree⟩ := freeId_spec (cs := s.contacts) (by omega) hn1 hn2
      rw [contactTableLaw_iff]
      refine ⟨hc.append hlen (by simpa using hfree) ?_ (stateShowsChange_newContact _ _ _ _),
        idAfter_range _⟩
      rw [(newContact_fields _ _ _ _).1, he]
      exact idCandidate_range _ _
    · exact contactTableLaw_congr rfl rfl hs
  · exact contactTableLaw_of_contacts hs rfl fun hc =>
      hc.update id (by simp) fun c _ _ => stateShowsChange_lift _ c
  · exact contactTableLaw_congr rfl rfl hs
  · exact hs

theorem contactTableLaw_roundEnd {s : State} (hs : ContactTableLaw s) :
    ContactTableLaw (roundEndProcessing s) := by
  refine roundEndProcessing_keeps (P := ContactTableLaw) ?_ ?_ contactTableLaw_resolveZone ?_ hs
  · exact fun u hu => contactTableLaw_of_contacts hu rfl fun hc =>
      hc.map (fun c _ => by simp) fun c hm => stateShowsChange_age (hc.shows c hm)
  · intro u hu
    refine contactTableLaw_of_contacts hu (by simp) fun hc => ?_
    rw [expiryStage_contacts]
    exact hc.filter _
  · exact fun u hu => contactTableLaw_congr (by simp) (by simp) hu

/-- One pair of an acknowledgement keeps the law (R94 to R96). -/
theorem contactsLaw_ackPair (id revision : Nat) (cs : List Contact) (hc : ContactsLaw cs) :
    ContactsLaw (ackPair id revision cs) := by
  obtain h | ⟨c, hm, hid, _, _, h⟩ | ⟨c, hm, hid, _, hl, h⟩ := ackPair_cases id revision cs <;> rw [h]
  · exact hc
  · exact hc.filter _
  · refine hc.update id (by simp) fun d hd hdid => ?_
    rw [contact_eq_of_id hc.nodup hd hm (hdid.trans hid.symm)]
    exact stateShowsChange_acknowledged hl

theorem contactsLaw_afterDelete (z : Zone) {cs : List Contact} (hc : ContactsLaw cs) :
    ContactsLaw (contactsAfterDelete z cs) := by
  unfold contactsAfterDelete
  split
  · exact hc.update _ (by simp) fun c _ _ => stateShowsChange_lift _ c
  · exact hc

/-- Every effect on the tables keeps the law of the Contact Table. -/
theorem contactTableLaw_tableEffect (s : State) (c : Instr) (t : State) (h : TableEffect s c t)
    (hs : ContactTableLaw s) : ContactTableLaw t := by
  have tables {u : State} (h : SameTables u t) (hu : ContactTableLaw u) : ContactTableLaw t :=
    contactTableLaw_ofTables _ _ h hu
  have same {u : State} (h : SameTables u t) (hc : u.contacts = s.contacts)
      (hn : u.nextId = s.nextId) : ContactTableLaw t := tables h (contactTableLaw_congr hc hn hs)
  have empty {u : State} (h : SameTables u t) (hc : u.contacts = []) (hn : u.nextId = 1) :
      ContactTableLaw t := by
    refine tables h ((contactTableLaw_iff u).mpr ?_)
    rw [hc, hn]
    exact ⟨contactsLaw_nil, by decide⟩
  cases h with
  | same h => exact same h rfl rfl
  | fullReset slot hc h => exact empty h rfl rfl
  | scanReset h => exact empty h rfl rfl
  | resetStands h => exact empty h rfl rfl
  | settings hv h => exact same h rfl rfl
  | channel hi hf h => exact same h rfl rfl
  | role hi hm h => exact same h rfl rfl
  | calibrate h => exact same h rfl rfl
  | defineZone ho hr h => exact same h rfl rfl
  | deleteZone hz h =>
    exact tables h (contactTableLaw_of_contacts hs rfl (contactsLaw_afterDelete _))
  | acknowledge h =>
    exact tables h (contactTableLaw_of_contacts hs rfl fun hc =>
      ackList_keeps contactsLaw_ackPair _ hc)
  | quieted h => exact same h (by simp) (by simp)
  | completed hu ht =>
    refine ht.keeps contactTableLaw_ofTables (fun _ => contactTableLaw_roundEnd)
      (fun _ hu => contactTableLaw_congr (by simp) (by simp) hu) ?_
    cases hu with
    | none => exact hs
    | taken => exact contactTableLaw_congr (by simp) (by simp) hs

/-- Settles O56. -/
theorem stepKeepsContactTableLaw : Obligations.StepKeepsContactTableLaw := fun _ _ hs hst =>
  step_keeps_ofTables contactTableLaw_ofTables contactTableLaw_tableEffect hs hst

end Sys2Proof.Machine
end

section
/-! PROOFS. The tie between zones and their current contacts, which every command keeps (R62, R71). -/

namespace Sys2Proof.Machine

/-! ### The tie between a Zone Table and a list of contacts -/

/-- The zone is DEFINED and the id is that of its current contact. -/
def CurrentAt (zones : Vector (Option Zone) 16) (i : Fin 16) (id : Nat) : Prop :=
  ∃ z, Table.read zones i = some z ∧ z.current = some id

/-- Each current contact is a DOWN or HELD record that names its zone, and each DOWN or HELD record is
the current contact of the zone it names (R71). -/
structure Tied (zones : Vector (Option Zone) 16) (cs : List Contact) : Prop where
  record : ∀ i id, CurrentAt zones i id → ∃ c ∈ cs, c.id = id ∧ c.zone = i ∧ c.state.isLifted = false
  current : ∀ c ∈ cs, c.state.isLifted = false → CurrentAt zones c.zone c.id

/-- A pending zone has no current contact (R62). -/
def PendingLaw (zones : Vector (Option Zone) 16) : Prop :=
  ∀ i z, Table.read zones i = some z → z.pending = true → z.current = none

theorem currentContactLaw_iff (s : State) :
    CurrentContactLaw s ↔ Tied s.zones s.contacts ∧ PendingLaw s.zones := by
  constructor
  · rintro ⟨hr, hc, hp⟩
    exact ⟨⟨fun i id ⟨z, hz, hid⟩ => hr i z id hz hid, hc⟩, hp⟩
  · rintro ⟨⟨hr, hc⟩, hp⟩
    exact ⟨fun i z id hz hid => hr i id ⟨z, hz, hid⟩, hc, hp⟩

section
variable {zones : Vector (Option Zone) 16} {i : Fin 16} {cs : List Contact}

/-- Writing a zone record decides the current contact of that zone alone. -/
theorem currentAt_write (w : Option Zone) (j : Fin 16) (id : Nat) :
    CurrentAt (Table.write zones i w) j id ↔
      if i = j then ∃ z, w = some z ∧ z.current = some id else CurrentAt zones j id := by
  unfold CurrentAt
  rw [Table.read_write]
  split <;> rfl

/-- A write that leaves the zone's current contact as it was keeps every current contact. -/
theorem currentAt_write_same {w : Option Zone}
    (h : ∀ id, (∃ z, w = some z ∧ z.current = some id) ↔ CurrentAt zones i id) (j : Fin 16)
    (id : Nat) : CurrentAt (Table.write zones i w) j id ↔ CurrentAt zones j id := by
  rw [currentAt_write]
  split
  · rename_i hij
    rw [h, hij]
  · rfl

/-- The tie rests on the current contacts alone. -/
theorem Tied.congr {zones' : Vector (Option Zone) 16} (ht : Tied zones cs)
    (h : ∀ j id, CurrentAt zones' j id ↔ CurrentAt zones j id) : Tied zones' cs :=
  ⟨fun j id hj => ht.record j id ((h j id).mp hj), fun c hc hl => (h _ _).mpr (ht.current c hc hl)⟩

/-- A change of records that keeps id, zone and being LIFTED keeps the tie. -/
theorem Tied.map (ht : Tied zones cs) {f : Contact → Contact}
    (hf : ∀ c ∈ cs, (f c).id = c.id ∧ (f c).zone = c.zone
      ∧ (f c).state.isLifted = c.state.isLifted) : Tied zones (cs.map f) where
  record j id hj := by
    obtain ⟨c, hc, h1, h2, h3⟩ := ht.record j id hj
    obtain ⟨f1, f2, f3⟩ := hf c hc
    exact ⟨f c, List.mem_map_of_mem hc, f1.trans h1, f2.trans h2, f3.trans h3⟩
  current c hc hl := by
    obtain ⟨d, hd, rfl⟩ := List.mem_map.mp hc
    obtain ⟨f1, f2, f3⟩ := hf d hd
    rw [f1, f2]
    exact ht.current d hd (f3.symm.trans hl)

theorem Tied.update (ht : Tied zones cs) (id : Nat) {f : Contact → Contact}
    (hf : ∀ c ∈ cs, (f c).id = c.id ∧ (f c).zone = c.zone
      ∧ (f c).state.isLifted = c.state.isLifted) : Tied zones (updateContact id f cs) := by
  refine ht.map fun c hc => ?_
  split
  · exact hf c hc
  · exact ⟨rfl, rfl, rfl⟩

/-- LIFTED records that leave take nothing from the tie. -/
theorem Tied.filter (ht : Tied zones cs) {p : Contact → Bool}
    (hp : ∀ c ∈ cs, c.state.isLifted = false → p c = true) : Tied zones (cs.filter p) where
  record j id hj := by
    obtain ⟨c, hc, h1, h2, h3⟩ := ht.record j id hj
    exact ⟨c, List.mem_filter.mpr ⟨hc, hp c hc h3⟩, h1, h2, h3⟩
  current c hc hl := ht.current c (List.mem_of_mem_filter hc) hl

/-- A new record of a zone without a current contact becomes that contact (R79). -/
theorem Tied.append (ht : Tied zones cs) (hnone : ∀ id, ¬ CurrentAt zones i id) {c : Contact}
    (hz : c.zone = i) (hl : c.state.isLifted = false) {w : Zone} (hw : w.current = some c.id) :
    Tied (Table.write zones i (some w)) (cs ++ [c]) where
  record j id hj := by
    rw [currentAt_write] at hj
    split at hj
    · rename_i hij
      obtain ⟨z, hwz, hcur⟩ := hj
      obtain rfl := Option.some.inj hwz
      refine ⟨c, by simp, ?_, hz.trans hij, hl⟩
      exact Option.some.inj (hw.symm.trans hcur)
    · obtain ⟨d, hd, h⟩ := ht.record j id hj
      exact ⟨d, List.mem_append_left _ hd, h⟩
  current d hd hdl := by
    rw [currentAt_write]
    rcases List.mem_append.mp hd with hd | hd
    · have hcur := ht.current d hd hdl
      rw [if_neg]
      · exact hcur
      · intro hij
        exact hnone d.id (hij.symm ▸ hcur)
    · rw [List.mem_singleton.mp hd, if_pos hz.symm]
      exact ⟨w, rfl, hw⟩

/-- The lift of a zone's current contact, the zone left without one (R50, R81). -/
theorem Tied.lift (ht : Tied zones cs) (hn : (cs.map fun c => c.id).Nodup) {id : Nat}
    (hid : CurrentAt zones i id) (cause : LiftCause) {w : Option Zone}
    (hw : ∀ z, w = some z → z.current = none) :
    Tied (Table.write zones i w) (updateContact id (liftContact cause) cs) where
  record j id' hj := by
    rw [currentAt_write] at hj
    split at hj
    · obtain ⟨z, hz, hcur⟩ := hj
      simp [hw z hz] at hcur
    · rename_i hij
      obtain ⟨c, hc, h1, h2, h3⟩ := ht.record j id' hj
      obtain ⟨d, hd, hd1, hd2, _⟩ := ht.record i id hid
      have hne : c.id ≠ id := fun he => hij (by
        rw [← hd2, ← h2, contact_eq_of_id hn hc hd (he.trans hd1.symm)])
      exact ⟨c, mem_updateContact.mpr ⟨c, hc, if_neg hne⟩, h1, h2, h3⟩
  current c hc hl := by
    obtain ⟨d, hd, rfl⟩ := mem_updateContact.mp hc
    split at hl
    · simp [ContactState.isLifted] at hl
    · rename_i hne
      rw [if_neg hne]
      have hcur := ht.current d hd hl
      rw [currentAt_write, if_neg]
      · exact hcur
      · intro hij
        obtain ⟨z, hz, hzc⟩ := hid
        obtain ⟨z', hz', hzc'⟩ := hcur
        rw [← hij, hz, Option.some.injEq] at hz'
        subst hz'
        exact hne (Option.some.inj (hzc'.symm.trans hzc))

theorem tied_nil (h : ∀ j id, ¬ CurrentAt zones j id) : Tied zones [] :=
  ⟨fun j id hj => absurd hj (h j id), by simp⟩

/-- A write of a zone that is not both pending and in contact keeps the law of pending zones. -/
theorem PendingLaw.write (hp : PendingLaw zones) {w : Option Zone}
    (hw : ∀ z, w = some z → z.pending = true → z.current = none) :
    PendingLaw (Table.write zones i w) := by
  intro j z hz hpend
  rw [Table.read_write] at hz
  split at hz
  · exact hw z hz hpend
  · exact hp j z hz hpend

end

/-- A zone reset has no current contact (R46). -/
theorem not_currentAt_mapReset (zones : Vector (Option Zone) 16) (j : Fin 16) (id : Nat) :
    ¬ CurrentAt (Table.mapAt (fun _ z => z.map scanResetZone) zones) j id := by
  rintro ⟨z, hz, hid⟩
  rw [Table.read_mapAt, Option.map_eq_some_iff] at hz
  obtain ⟨w, _, rfl⟩ := hz
  cases hid

/-! ### All commands -/

/-- The law of the Contact Table and the tie, which are kept together. -/
def TieLaw (s : State) : Prop :=
  ContactTableLaw s ∧ Tied s.zones s.contacts ∧ PendingLaw s.zones

theorem tieLaw_iff (s : State) : TieLaw s ↔ ContactTableLaw s ∧ CurrentContactLaw s := by
  rw [currentContactLaw_iff, TieLaw]

theorem TieLaw.nodup {s : State} (h : TieLaw s) : (s.contacts.map fun c => c.id).Nodup :=
  ((contactTableLaw_iff s).mp h.1).1.nodup

theorem TieLaw.congr {s t : State} (hs : TieLaw s) (hz : t.zones = s.zones)
    (hc : t.contacts = s.contacts) (hn : t.nextId = s.nextId) : TieLaw t := by
  refine ⟨contactTableLaw_congr hc hn hs.1, ?_⟩
  rw [hz, hc]
  exact hs.2

theorem tieLaw_ofTables : OfTables TieLaw := fun _ _ h hs => hs.congr h.zones h.contacts h.nextId

/-- The resolution of a zone keeps the tie (R77 to R82). -/
theorem tieLaw_resolveZone (s : State) (i : Fin 16) (hs : TieLaw s) : TieLaw (resolveZone s i) := by
  refine ⟨contactTableLaw_resolveZone s i hs.1, ?_⟩
  obtain ⟨_, ht, hp⟩ := hs
  have hn := TieLaw.nodup ⟨‹_›, ht, hp⟩
  unfold resolveZone
  split
  swap
  · exact ⟨ht, hp⟩
  rename_i z hz
  have hcur : ∀ id, CurrentAt s.zones i id ↔ z.current = some id := fun id => by
    simp [CurrentAt, hz]
  obtain ⟨id, _, _, h⟩ | ⟨_, hnone, h⟩ | ⟨id, _, hid, h⟩ | ⟨_, hnone, _, h⟩ | ⟨_, _, _, h⟩ :=
    resolveDefined_cases i z s <;> rw [h]
  · exact ⟨ht.update id fun c _ => by simp, hp⟩
  · unfold serveZone
    split
    · have hnew := ht.append (i := i) (fun id hid => by simp [hcur, hnone] at hid)
        (c := newContact s.channels (freeId s.contacts s.nextId) i z) rfl rfl
        (w := { z with
          current := some (freeId s.contacts s.nextId), pending := false, dropped := false }) rfl
      exact ⟨hnew, hp.write (by simp)⟩
    · exact ⟨ht.congr (currentAt_write_same (by simp [hcur])), hp.write (by simp [hnone])⟩
  · exact ⟨ht.lift hn ((hcur id).mpr hid) _ (by simp), hp.write (by simp)⟩
  · exact ⟨ht.congr (currentAt_write_same (by simp [hcur])), hp.write (by simp)⟩
  · exact ⟨ht, hp⟩

theorem tieLaw_roundEnd {s : State} (hs : TieLaw s) : TieLaw (roundEndProcessing s) := by
  refine roundEndProcessing_keeps (P := TieLaw) (fun u hu => ?_) (fun u hu => ?_)
    tieLaw_resolveZone (fun u hu => hu.congr (by simp) (by simp) (by simp)) hs
  · refine ⟨contactTableLaw_of_contacts hu.1 rfl fun hc => ?_, ?_⟩
    · exact hc.map (fun c _ => by simp) fun c hm => stateShowsChange_age (hc.shows c hm)
    · exact ⟨hu.2.1.map fun c _ => by simp, hu.2.2⟩
  · refine ⟨contactTableLaw_of_contacts hu.1 (by simp) fun hc => ?_, ?_⟩
    · rw [expiryStage_contacts]
      exact hc.filter _
    · rw [expiryStage_contacts, (expiryStage_fields u).2.2.2.2.2.2.2.1]
      refine ⟨hu.2.1.filter fun c _ hl => ?_, hu.2.2⟩
      cases hst : c.state <;> simp_all [expires, ContactState.isLifted]

/-- One pair of an acknowledgement keeps the tie: what it retires is LIFTED (R94 to R96). -/
theorem tied_ackPair {zones : Vector (Option Zone) 16} (id revision : Nat) (cs : List Contact)
    (h : ContactsLaw cs ∧ Tied zones cs) :
    ContactsLaw (ackPair id revision cs) ∧ Tied zones (ackPair id revision cs) := by
  refine ⟨contactsLaw_ackPair id revision cs h.1, ?_⟩
  obtain ⟨hc, ht⟩ := h
  obtain e | ⟨c, hm, hid, _, hl, e⟩ | ⟨c, hm, hid, _, hl, e⟩ := ackPair_cases id revision cs <;>
    rw [e]
  · exact ht
  · refine ht.filter fun d hd hdl => ?_
    rw [bne_iff_ne]
    intro he
    rw [contact_eq_of_id hc.nodup hd hm (he.trans hid.symm), hl] at hdl
    cases hdl
  · exact ht.update id fun d _ => by simp

/-- The deletion of a zone keeps the tie (R50). -/
theorem tieLaw_deleteZone {s : State} (hs : TieLaw s) {i : Fin 16} {z : Zone}
    (hz : Table.read s.zones i = some z) :
    TieLaw { s with
      contacts := contactsAfterDelete z s.contacts, zones := Table.write s.zones i none } := by
  refine ⟨contactTableLaw_of_contacts hs.1 rfl (contactsLaw_afterDelete z), ?_,
    hs.2.2.write (by simp)⟩
  have hcur : ∀ id, CurrentAt s.zones i id ↔ z.current = some id := fun id => by
    simp [CurrentAt, hz]
  unfold contactsAfterDelete
  split
  · rename_i id hid
    exact hs.2.1.lift hs.nodup ((hcur id).mpr hid) .zoneDeleted (by simp)
  · rename_i hnone
    exact hs.2.1.congr (currentAt_write_same (by simp [hcur, hnone]))

/-- Every effect on the tables keeps the tie. -/
theorem tieLaw_tableEffect (s : State) (c : Instr) (t : State) (h : TableEffect s c t)
    (hs : TieLaw s) : TieLaw t := by
  have tables {u : State} (h : SameTables u t) (hu : TieLaw u) : TieLaw t :=
    tieLaw_ofTables _ _ h hu
  have same {u : State} (h : SameTables u t) (hz : u.zones = s.zones)
      (hc : u.contacts = s.contacts) (hn : u.nextId = s.nextId) : TieLaw t :=
    tables h (hs.congr hz hc hn)
  have empty {u : State} (h' : SameTables u t) (hc : u.contacts = [])
      (hz : ∀ j id, ¬ CurrentAt u.zones j id) : TieLaw t := by
    refine ⟨contactTableLaw_tableEffect s c t h hs.1, ?_, fun j z hj _ => ?_⟩
    · rw [h'.zones, h'.contacts, hc]
      exact tied_nil hz
    · rw [h'.zones] at hj
      cases hid : z.current with
      | none => rfl
      | some id => exact absurd ⟨z, hj, hid⟩ (hz j id)
  cases h with
  | same h => exact same h rfl rfl rfl
  | fullReset slot hc h => exact empty h rfl fun j id ⟨z, hz, _⟩ => by simp [fullResetBlocks] at hz
  | scanReset h => exact empty h rfl (not_currentAt_mapReset s.zones)
  | resetStands h => exact empty h rfl (not_currentAt_mapReset s.zones)
  | settings hv h => exact same h rfl rfl rfl
  | channel hi hf h => exact same h rfl rfl rfl
  | role hi hm h => exact same h rfl rfl rfl
  | calibrate h => exact same h rfl rfl rfl
  | @defineZone _ _ _ _ o _ ho hr h =>
    have hfree : Table.read s.zones o.index = none := by
      unfold defineRefusal at hr
      split_ifs at hr with hsome
      simpa using hsome
    refine tables h ⟨contactTableLaw_congr (s := s) rfl rfl hs.1, ?_,
      hs.2.2.write (by simp [newZone])⟩
    exact hs.2.1.congr (currentAt_write_same (by simp [CurrentAt, hfree, newZone]))
  | deleteZone hz h => exact tables h (tieLaw_deleteZone hs hz)
  | @acknowledge pairs _ h =>
    have hk := ackList_keeps (P := fun cs => ContactsLaw cs ∧ Tied s.zones cs) tied_ackPair pairs
      (cs := s.contacts) ⟨((contactTableLaw_iff s).mp hs.1).1, hs.2.1⟩
    exact tables h ⟨contactTableLaw_of_contacts hs.1 rfl fun _ => hk.1, hk.2, hs.2.2⟩
  | quieted h => exact same h (by simp) (by simp) (by simp)
  | completed hu ht =>
    refine ht.keeps tieLaw_ofTables (fun _ => tieLaw_roundEnd)
      (fun _ hu => hu.congr (by simp) (by simp) (by simp)) ?_
    cases hu with
    | none => exact hs
    | taken => exact hs.congr (by simp) (by simp) (by simp)

/-- Settles O57: the tie is kept together with the law of the Contact Table, whose different ids make a
lift or an acknowledgement touch one record alone. -/
theorem stepKeepsCurrentContactLaw : Obligations.StepKeepsCurrentContactLaw := by
  intro s t hc hs hst
  have h := step_keeps_ofTables tieLaw_ofTables tieLaw_tableEffect ((tieLaw_iff s).mpr ⟨hc, hs⟩) hst
  exact ((tieLaw_iff t).mp h).2

end Sys2Proof.Machine
end

section
/-! PROOFS. The law of ATTN: an operation that writes what R106 judges is followed by a judgement, and
every other one writes neither that nor ATTN (R106, R107). -/

namespace Sys2Proof.Machine

/-- Two states agree in ATTN and in all that it is judged from. -/
structure SameAttn (s t : State) : Prop where
  power : t.power = s.power
  attn : t.attn = s.attn
  contacts : t.contacts = s.contacts
  events : t.events = s.events
  settings : t.settings = s.settings

theorem SameAttn.refl (s : State) : SameAttn s s := ⟨rfl, rfl, rfl, rfl, rfl⟩

theorem SameAttn.trans {s t u : State} (h : SameAttn s t) (h' : SameAttn t u) : SameAttn s u :=
  ⟨h'.power.trans h.power, h'.attn.trans h.attn, h'.contacts.trans h.contacts,
    h'.events.trans h.events, h'.settings.trans h.settings⟩

theorem SameAttn.law {s t : State} (h : SameAttn s t) (hs : AttnLaw s) : AttnLaw t := by
  unfold AttnLaw AttnDue at *
  rw [h.power, h.attn, h.contacts, h.events, h.settings]
  exact hs

/-! ### Operations that write nothing of it -/

section
variable (s : State)

theorem sameAttn_answer (r : Reply) : SameAttn s (answer r s) := by constructor <;> simp

theorem sameAttn_grant : SameAttn s (grant s) := by constructor <;> simp

theorem sameAttn_startIfDue : SameAttn s (startIfDue s) := by constructor <;> simp

theorem sameAttn_writeMode (mode : ScanMode) : SameAttn s (writeMode mode s) := by
  cases mode <;> exact ⟨rfl, rfl, rfl, rfl, rfl⟩

theorem sameAttn_enterMode : SameAttn s (enterMode s) := by
  unfold enterMode
  split
  · exact .refl s
  · exact ⟨rfl, rfl, rfl, rfl, rfl⟩
  · refine SameAttn.trans ?_ (sameAttn_startIfDue _)
    constructor <;> simp only

theorem sameAttn_endAbandonment : SameAttn s (endAbandonment s) := by
  refine SameAttn.trans ?_ (sameAttn_enterMode _)
  exact ⟨rfl, rfl, rfl, rfl, rfl⟩

theorem sameAttn_abandonForMode : SameAttn s (abandonForMode s) := by
  unfold abandonForMode
  split
  · split
    · exact ⟨rfl, rfl, rfl, rfl, rfl⟩
    · refine SameAttn.trans ?_ (sameAttn_endAbandonment _)
      exact ⟨rfl, rfl, rfl, rfl, rfl⟩
  · exact .refl s
  · exact sameAttn_endAbandonment s
  · exact sameAttn_endAbandonment s

theorem sameAttn_changeMode (mode : ScanMode) : SameAttn s (changeMode mode s) :=
  ((sameAttn_writeMode s mode).trans (sameAttn_abandonForMode _)).trans (sameAttn_grant _)

theorem sameAttn_startSlotTimer : SameAttn s (startSlotTimer s) := by
  unfold startSlotTimer
  split <;> exact ⟨rfl, rfl, rfl, rfl, rfl⟩

theorem sameAttn_queueMeasurement (target : Target) (level : Nat) :
    SameAttn s (queueMeasurement target level s) := by
  unfold queueMeasurement
  split
  · refine SameAttn.trans ?_ (sameAttn_startSlotTimer _)
    exact ⟨rfl, rfl, rfl, rfl, rfl⟩
  · exact ⟨rfl, rfl, rfl, rfl, rfl⟩

theorem sameAttn_startRoundHoldTimer : SameAttn s (startRoundHoldTimer s) := by
  unfold startRoundHoldTimer
  split <;> exact ⟨rfl, rfl, rfl, rfl, rfl⟩

theorem sameAttn_holdBegins : SameAttn s (holdBegins s) := by
  refine SameAttn.trans (SameAttn.trans ?_ (sameAttn_startSlotTimer _))
    (sameAttn_startRoundHoldTimer _)
  exact ⟨rfl, rfl, rfl, rfl, rfl⟩

theorem sameAttn_endHoldWait : SameAttn s (endHoldWait s) := by
  unfold endHoldWait restartModeTimer
  split
  · dsimp only
    split <;> exact ⟨rfl, rfl, rfl, rfl, rfl⟩
  all_goals exact .refl s

theorem sameAttn_holdEnds : SameAttn s (holdEnds s) := by
  refine SameAttn.trans (SameAttn.trans ?_ (sameAttn_endHoldWait _)) (sameAttn_grant _)
  exact ⟨rfl, rfl, rfl, rfl, rfl⟩

theorem sameAttn_holdOff : SameAttn s (holdOff s) := by
  unfold holdOff
  split <;> exact ⟨rfl, rfl, rfl, rfl, rfl⟩

end

/-! ### All commands -/

/-- An answer keeps the law. -/
theorem AttnLaw.answer {s : State} (h : AttnLaw s) (r : Reply) : AttnLaw (answer r s) :=
  (sameAttn_answer s r).law h

theorem attnLaw_takeSetMode (mode : ScanMode) {s : State} (hs : AttnLaw s) :
    AttnLaw (takeSetMode mode s) := by
  unfold takeSetMode
  split
  · exact hs.answer _
  · split
    · exact hs.answer _
    · exact ((sameAttn_changeMode s mode).law hs).answer _

theorem attnLaw_takeSetSettings (r : SettingsOperands) {s : State} (hs : AttnLaw s) :
    AttnLaw (takeSetSettings r s) := by
  unfold takeSetSettings
  split
  · exact (judgeAttn_attnLaw _).answer _
  · exact hs.answer _

theorem attnLaw_takeGetChannel (b : Byte) {s : State} (hs : AttnLaw s) :
    AttnLaw (takeGetChannel b s) := by
  unfold takeGetChannel
  split <;> exact hs.answer _

theorem attnLaw_takeSetChannel (b : Byte) (f : ChannelOperands) {s : State} (hs : AttnLaw s) :
    AttnLaw (takeSetChannel b f s) := by
  unfold takeSetChannel
  split
  · refine AttnLaw.answer (SameAttn.law (s := s) ?_ hs) _
    exact ⟨rfl, rfl, rfl, rfl, rfl⟩
  · exact hs.answer _
  · exact hs.answer _

theorem attnLaw_takeSetRole (b code : Byte) {s : State} (hs : AttnLaw s) :
    AttnLaw (takeSetRole b code s) := by
  unfold takeSetRole
  split
  · split
    · exact hs.answer _
    · refine AttnLaw.answer (SameAttn.law (s := s) ?_ hs) _
      exact ⟨rfl, rfl, rfl, rfl, rfl⟩
  · exact hs.answer _
  · exact hs.answer _

theorem attnLaw_takeCalibrate (mask : BitVec 32) (flag : Byte) {s : State} (hs : AttnLaw s) :
    AttnLaw (takeCalibrate mask flag s) := by
  unfold takeCalibrate
  split
  · exact hs.answer _
  · refine AttnLaw.answer (SameAttn.law (s := s) ?_ hs) _
    constructor <;> simp only

theorem attnLaw_takeDefineZone (b kind th : Byte) (ms : List Byte) {s : State} (hs : AttnLaw s) :
    AttnLaw (takeDefineZone b kind th ms s) := by
  unfold takeDefineZone
  split
  · exact hs.answer _
  · split
    · exact hs.answer _
    · refine AttnLaw.answer (SameAttn.law (s := s) ?_ hs) _
      exact ⟨rfl, rfl, rfl, rfl, rfl⟩

theorem attnLaw_takeDeleteZone (b : Byte) {s : State} (hs : AttnLaw s) :
    AttnLaw (takeDeleteZone b s) := by
  unfold takeDeleteZone
  split
  · exact hs.answer _
  · split
    · exact hs.answer _
    · exact (judgeAttn_attnLaw _).answer _

theorem attnLaw_takeGetZone (b : Byte) {s : State} (hs : AttnLaw s) : AttnLaw (takeGetZone b s) := by
  unfold takeGetZone
  split <;> exact hs.answer _

theorem attnLaw_takeMeasure (target level : Byte) {s : State} (hs : AttnLaw s) :
    AttnLaw (takeMeasure target level s) := by
  unfold takeMeasure
  split
  · split
    · exact hs.answer _
    · exact (((sameAttn_queueMeasurement s _ _).trans (sameAttn_grant _)).law hs).answer _
  · exact hs.answer _
  · exact hs.answer _

theorem attnLaw_takings : TakingsKeep AttnLaw := by
  intro c take s hc _ hs
  cases c <;> cases hc
  case clearStatus mask => exact (judgeAttn_attnLaw _).answer _
  case setModePaused => exact attnLaw_takeSetMode _ hs
  case setModeActive => exact attnLaw_takeSetMode _ hs
  case setModeWatch => exact attnLaw_takeSetMode _ hs
  case resetFull => rfl
  case resetScan => rfl
  case setSettings r => exact attnLaw_takeSetSettings r hs
  case getChannel i => exact attnLaw_takeGetChannel i hs
  case setChannel i f => exact attnLaw_takeSetChannel i f hs
  case setRole i r => exact attnLaw_takeSetRole i r hs
  case calibrate mask flag => exact attnLaw_takeCalibrate mask flag hs
  case defineZone i k t ms => exact attnLaw_takeDefineZone i k t ms hs
  case deleteZone i => exact attnLaw_takeDeleteZone i hs
  case getZone i => exact attnLaw_takeGetZone i hs
  case ackContacts pairs => exact (judgeAttn_attnLaw _).answer _
  case measure t l => exact attnLaw_takeMeasure t l hs
  all_goals exact hs.answer _

theorem attnLaw_events : EventsKeep AttnLaw := by
  intro c s t h hs
  cases h with
  | ignored => exact hs
  | powerOn => rfl
  | startUpWaits h => simpa only [AttnLaw, h] using hs
  | startUpEnds => exact judgeAttn_attnLaw _
  | rstnFalls => rfl
  | rstnFallsHeld => exact hs
  | rstnRises => exact judgeAttn_attnLaw _
  | rstnRisesOnly => exact hs
  | holdBegins => exact (sameAttn_holdBegins _).law hs
  | holdBeginsHeld => exact hs
  | holdEnds => exact (sameAttn_holdEnds _).law hs
  | holdEndsHeld => exact hs
  | resetCompletes => exact judgeAttn_attnLaw _
  | converted => exact judgeAttn_attnLaw _
  | roundTimer => exact ((sameAttn_startIfDue _).trans (sameAttn_grant _)).law hs
  | watchTimer => exact ((sameAttn_startIfDue _).trans (sameAttn_grant _)).law hs
  | roundHeldOff => exact judgeAttn_attnLaw _
  | measureHeldOff => exact (sameAttn_holdOff s).law hs
  | supplyFalls => trivial

/-- Settles O53. -/
theorem stepKeepsAttnLaw : Obligations.StepKeepsAttnLaw := fun _ _ hs hst =>
  step_keeps (P := AttnLaw) (fun _ _ hs => hs)
    (fun _ _ _ hs he => exec_keeps (fun _ _ _ hs => hs) attnLaw_takings attnLaw_events hs he) hs hst

end Sys2Proof.Machine
end

section
/-! PROOFS. The laws of the converter, the arbiter, the pins, the rounds and the timers. All but the
arbiter's own law are kept by the operations of the blocks, and every operation that may leave a claim
ungranted is followed by a grant, which brings the arbiter's law back (R109, R115, R118, R119, R142,
R148, R154, R160, R161). -/

namespace Sys2Proof.Machine

/-! ### The laws apart from the arbiter's -/

/-- The laws of the blocks that hold before the arbiter grants as well as after. -/
structure BlocksLaw (s : State) : Prop where
  held : HeldLaw s
  pins : IdlePinsLaw s
  work : RoundWorkLaw s
  timers : TimerLaw s
  kind : RoundKindLaw s
  slot : SlotLaw s

theorem scanningLaw_iff (s : State) :
    ScanningLaw s ↔ (blocksRun s = true → BlocksLaw s ∧ ArbiterLaw s) := by
  refine imp_congr_right fun _ => ⟨?_, ?_⟩
  · rintro ⟨h1, h2, h3, h4, h5, h6, h7⟩
    exact ⟨⟨h1, h2, h4, h5, h6, h7⟩, h3⟩
  · rintro ⟨⟨h1, h2, h4, h5, h6, h7⟩, h3⟩
    exact ⟨h1, h2, h3, h4, h5, h6, h7⟩

/-- Two states agree in all that the laws of the blocks speak of. -/
structure SameBlocks (s t : State) : Prop where
  hold : t.hold = s.hold
  converter : t.converter = s.converter
  scanClaim : t.scanClaim = s.scanClaim
  slot : t.slot = s.slot
  slotTimer : t.slotTimer = s.slotTimer
  drive : t.drive = s.drive
  roles : SameRoles s.channels t.channels
  scan : ({ t.scan with counter := 0 } : Scan) = { s.scan with counter := 0 }

theorem SameBlocks.refl (s : State) : SameBlocks s s :=
  ⟨rfl, rfl, rfl, rfl, rfl, rfl, fun _ => rfl, rfl⟩

theorem SameBlocks.trans {s t u : State} (h : SameBlocks s t) (h' : SameBlocks t u) :
    SameBlocks s u :=
  ⟨h'.hold.trans h.hold, h'.converter.trans h.converter, h'.scanClaim.trans h.scanClaim,
    h'.slot.trans h.slot, h'.slotTimer.trans h.slotTimer, h'.drive.trans h.drive,
    fun i => (h'.roles i).trans (h.roles i), h'.scan.trans h.scan⟩

/-- The laws of the blocks rest on what `SameBlocks` compares. -/
theorem SameBlocks.law {s t : State} (h : SameBlocks s t) (hs : BlocksLaw s) : BlocksLaw t := by
  obtain ⟨h1, h2, h3, h4, h5, h6, h7, h8⟩ := h
  obtain ⟨m1, m2, m3, m4, m5⟩ : t.scan.mode = s.scan.mode ∧ t.scan.round = s.scan.round
      ∧ t.scan.roundTimer = s.scan.roundTimer ∧ t.scan.watchTimer = s.scan.watchTimer
      ∧ t.scan.holdTimer = s.scan.holdTimer := by simpa using h8
  have hf : roundInFlight t = roundInFlight s := by simp [roundInFlight, h2]
  obtain ⟨l1, l2, l3, l4, l5, l6⟩ := hs
  unfold HeldLaw IdlePinsLaw RoundWorkLaw TimerLaw RoundKindLaw SlotLaw at *
  constructor
  · simpa only [HeldLaw, h1, h2] using l1
  · simp only [IdlePinsLaw, h2, h6, idlePins_congr h7]
    exact l2
  · simpa only [RoundWorkLaw, m2, h3, hf] using l3
  · simpa only [TimerLaw, m1, m2, m3, m4, m5, h1, h4, h5] using l4
  · simpa only [RoundKindLaw, m1, m2] using l5
  · simpa only [SlotLaw, h2, h4] using l6

theorem SameBlocks.arbiter {s t : State} (h : SameBlocks s t) (hs : ArbiterLaw s) :
    ArbiterLaw t := by
  unfold ArbiterLaw at *
  rw [h.converter, h.hold, h.scanClaim, h.slot]
  exact hs

/-! ### The grant -/

theorem roundInFlight_none {s : State} (h : s.converter = none) : roundInFlight s = false := by
  simp [roundInFlight, h]

/-- A claim of the Scan Controller waits for a RUNNING round alone. -/
theorem BlocksLaw.running_of_claim {s : State} (hs : BlocksLaw s) {x : Target}
    (h : s.scanClaim = some x) : ∃ r, s.scan.round = .running r := by
  have hw := hs.work
  unfold RoundWorkLaw at hw
  cases hr : s.scan.round with
  | running r => exact ⟨r, rfl⟩
  | _ => simp [hr, h] at hw

/-- A grant keeps the laws of the blocks. -/
theorem blocksLaw_grant {s : State} (hs : BlocksLaw s) : BlocksLaw (grant s) := by
  obtain ⟨_, h⟩ | ⟨hc, hh, ⟨x, l, hq, h⟩ | ⟨_, ⟨x, hx, h⟩ | ⟨_, h⟩⟩⟩ := grant_cases s
  · rw [h]
    exact hs
  · rw [h]
    obtain ⟨t1, t2, t3, t4, t5⟩ := hs.timers
    refine ⟨fun cv _ hn => ?_, fun hn => ?_, ?_, ⟨t1, t2, t3, t4, ?_⟩, hs.kind, ?_⟩
    · simp [hh] at hn
    · simp [grantHost] at hn
    · have hw := hs.work
      unfold RoundWorkLaw at *
      have hf : roundInFlight (grantHost x l s) = false := by simp [roundInFlight, grantHost]
      rw [roundInFlight_none hc] at hw
      rw [hf]
      exact hw
    · intro ht
      exact ⟨(t5 ht).1, rfl⟩
    · intro y m hy
      simp only [grantHost_slot, Slot.converting.injEq] at hy
      obtain ⟨rfl, rfl⟩ := hy
      exact ⟨_, rfl, rfl, rfl, rfl⟩
  · rw [h]
    obtain ⟨r, hr⟩ := hs.running_of_claim hx
    refine ⟨fun cv _ hn => ?_, fun hn => ?_, ?_, hs.timers, hs.kind, ?_⟩
    · simp [hh] at hn
    · simp [grantScan] at hn
    · simp [RoundWorkLaw, hr, roundInFlight, grantScan]
    · intro y m hy
      obtain ⟨cv, hcv, _⟩ := hs.slot y m hy
      simp [hc] at hcv
  · rw [h]
    exact hs

/-- After a grant no claim waits that could be granted (R118). -/
theorem arbiterLaw_grant (s : State) : ArbiterLaw (grant s) := by
  obtain ⟨hb, h⟩ | ⟨_, _, ⟨x, l, hq, h⟩ | ⟨hq, ⟨x, hx, h⟩ | ⟨hx, h⟩⟩⟩ := grant_cases s <;> rw [h]
  · intro hc hh
    simp [hc, hh] at hb
  · intro hc
    simp [grantHost] at hc
  · intro hc
    simp [grantScan] at hc
  · exact fun _ _ => ⟨hx, hq⟩

/-! ### The start of a round -/

/-- The round state is IDLE: there is no hold-limit timer, no claim and no conversion of a round. -/
theorem BlocksLaw.holdTimer_stopped {s : State} (hs : BlocksLaw s)
    (hr : ∀ r, s.scan.round ≠ .running r) : s.scan.holdTimer = .stopped := by
  by_contra hn
  obtain ⟨_, r, h⟩ := hs.timers.2.2.2.1 hn
  exact hr r h

/-- A round that starts in the mode of its kind, the round state IDLE, keeps the laws (R143). -/
theorem blocksLaw_startRound {s : State} {kind : RoundKind} (hs : BlocksLaw s)
    (hr : s.scan.round = .idle) (hm : s.scan.mode = kind.mode) : BlocksLaw (startRound kind s) := by
  have hstop := hs.holdTimer_stopped (by simp [hr])
  have hwork := hs.work
  obtain ⟨t1, t2, t3, t4, t5⟩ := hs.timers
  simp only [RoundWorkLaw, hr] at hwork
  refine ⟨hs.held, hs.pins, hwork.1, ⟨?_, ?_, ?_, ?_, t5⟩, ?_, hs.slot⟩
  · intro hn
    cases kind with
    | active => exact absurd hm hn
    | watch => rfl
  · intro hn
    cases kind with
    | active => rfl
    | watch => exact absurd hm hn
  · simp [startRound]
  · intro hn
    refine ⟨?_, _, rfl⟩
    by_contra hh
    rw [startRound_hold] at hh
    simp [startRound, hh, hstop] at hn
  · rintro r hrun
    simp only [startRound, RoundState.running.injEq] at hrun
    subst hrun
    cases kind <;> simp [startRound, hm, RoundKind.mode]

theorem blocksLaw_startIfDue {s : State} (hs : BlocksLaw s) : BlocksLaw (startIfDue s) := by
  obtain ⟨hr, hm, _, h⟩ | ⟨hr, hm, _, h⟩ | h := startIfDue_cases s <;> rw [h]
  · exact blocksLaw_startRound hs hr hm
  · exact blocksLaw_startRound hs hr hm
  · exact hs

theorem sameBlocks_quietChannels (s : State) : SameBlocks s (quietChannels s) := by
  constructor <;> simp [SameRoles]

/-- The entry of the present mode keeps the laws (R154, R156, R158). -/
theorem blocksLaw_enterMode {s : State} (hs : BlocksLaw s) (hr : s.scan.round = .idle) :
    BlocksLaw (enterMode s) := by
  unfold enterMode
  split
  · exact hs
  · rename_i hm
    exact blocksLaw_startRound hs hr hm
  · exact blocksLaw_startIfDue ((sameBlocks_quietChannels s).law hs)

/-! ### The end of a round -/

/-- The state with its round put aside. -/
def roundAside (s : State) : State :=
  { s with scan := { s.scan with round := .idle, holdTimer := .stopped } }

theorem blocksLaw_endAbandonment {s : State} (hs : BlocksLaw (roundAside s))
    (ht : s.scan.holdTimer = .stopped) : BlocksLaw (endAbandonment s) := by
  refine blocksLaw_enterMode (SameBlocks.law ?_ hs) rfl
  constructor <;> simp [roundAside, SameRoles, ht]

/-- A RUNNING round of kind `r.kind` has been handed its conversion's outcome: the state obeys the laws
but for the round's own work, which the round now goes on with. -/
structure RoundHanded (r : Round) (s : State) : Prop where
  aside : BlocksLaw (roundAside s)
  hold : s.scan.holdTimer ≠ .stopped → s.hold = true
  mode : s.scan.mode = r.kind.mode

theorem RoundHanded.congr {r : Round} {s t : State} (h : RoundHanded r s) (hb : SameBlocks s t) :
    RoundHanded r t := by
  obtain ⟨h1, h2, h3, h4, h5, h6, h7, h8⟩ := hb
  obtain ⟨m1, m2, m3, m4, m5⟩ : t.scan.mode = s.scan.mode ∧ t.scan.round = s.scan.round
      ∧ t.scan.roundTimer = s.scan.roundTimer ∧ t.scan.watchTimer = s.scan.watchTimer
      ∧ t.scan.holdTimer = s.scan.holdTimer := by simpa using h8
  refine ⟨SameBlocks.law ?_ h.aside, ?_, m1.trans h.mode⟩
  · constructor <;> simp [roundAside, *]
  · rw [h1, m5]
    exact h.hold

/-- A round that claims a target again or anew keeps the laws (R119, R145). -/
theorem blocksLaw_claim {r r' : Round} {s : State} (h : RoundHanded r s) (hk : r'.kind = r.kind)
    (x : Target) {c : Scan} (hc : c = { s.scan with round := .running r' }) :
    BlocksLaw { s with scanClaim := some x, scan := c } := by
  obtain ⟨⟨l1, l2, l3, ⟨t1, t2, t3, t4, t5⟩, l5, l6⟩, hh, hm⟩ := h
  subst hc
  refine ⟨l1, l2, l3.1, ⟨t1, t2, by simp, fun hn => ⟨hh hn, _, rfl⟩, t5⟩, ?_, l6⟩
  intro q hq
  simp only [RoundState.running.injEq] at hq
  subst hq
  simp only [hk, hm]
  cases r.kind <;> simp [RoundKind.mode]

theorem sameBlocks_roundEnd (s : State) : SameBlocks s (roundEndProcessing s) := by
  constructor <;> simp [SameRoles]

/-- The wake check keeps the laws, the round state being IDLE (R159). -/
theorem blocksLaw_wakeCheck {s : State} (hs : BlocksLaw s) (hr : s.scan.round = .idle) :
    BlocksLaw (wakeCheck s) := by
  unfold wakeCheck
  split
  · refine blocksLaw_startRound ?_ hr rfl
    obtain ⟨l1, l2, l3, ⟨t1, t2, t3, t4, t5⟩, l5, l6⟩ := hs
    refine ⟨l1, l2, l3, ⟨fun hn => absurd rfl hn, fun _ => rfl, t3, t4, t5⟩, ?_, l6⟩
    intro r hrun
    simp [hr] at hrun
  · exact hs

/-- The end of a completed round keeps the laws (R147). -/
theorem blocksLaw_completeRound {s : State} (kind : RoundKind) (verdict : Verdict)
    (hs : BlocksLaw (roundAside s)) : BlocksLaw (completeRound kind verdict s) := by
  have hc : BlocksLaw (closeRound kind s) := by
    refine SameBlocks.law ?_ hs
    constructor <;> simp [roundAside, SameRoles]
  refine blocksLaw_startIfDue ?_
  cases verdict with
  | noise => exact hc
  | proceed =>
    cases kind with
    | active => exact (sameBlocks_roundEnd _).law hc
    | watch => exact blocksLaw_wakeCheck hc (by simp)

theorem blocksLaw_channelTurn {r : Round} {s : State} (h : RoundHanded r s) :
    BlocksLaw (channelTurn r s) := by
  unfold channelTurn
  split
  · exact blocksLaw_claim (r' := { kind := r.kind, phase := .channels, last := some _ }) h rfl _ rfl
  · exact blocksLaw_completeRound _ _ h.aside

/-! ### The completion of a conversion -/

/-- What the completion of a conversion of the round leaves for its round: the laws with the round put
aside, and the round it is of, RUNNING or CLOSING. -/
structure OutcomeHanded (s : State) : Prop where
  aside : BlocksLaw (roundAside s)
  round : (∃ r, s.scan.round = .running r ∧ RoundHanded r s)
    ∨ ∃ r, s.scan.round = .closing r ∧ s.scan.holdTimer = .stopped

theorem OutcomeHanded.congr {s t : State} (h : OutcomeHanded s) (hb : SameBlocks s t) :
    OutcomeHanded t := by
  obtain ⟨_, hr, _, _, ht⟩ : t.scan.mode = s.scan.mode ∧ t.scan.round = s.scan.round
      ∧ t.scan.roundTimer = s.scan.roundTimer ∧ t.scan.watchTimer = s.scan.watchTimer
      ∧ t.scan.holdTimer = s.scan.holdTimer := by simpa using hb.scan
  refine ⟨SameBlocks.law ?_ h.aside, ?_⟩
  · obtain ⟨h1, h2, h3, h4, h5, h6, h7, h8⟩ := hb
    constructor <;> simp_all [roundAside]
  · rw [hr, ht]
    exact h.round.imp (fun ⟨r, h1, h2⟩ => ⟨r, h1, h2.congr hb⟩) id

section
variable {s : State} (h : OutcomeHanded s)
include h

theorem blocksLaw_roundAfterReference (verdict : Verdict) :
    BlocksLaw (roundAfterReference verdict s) := by
  unfold roundAfterReference
  obtain ⟨ha, ⟨r, hr, hh⟩ | ⟨r, hr, ht⟩⟩ := h <;> simp only [hr]
  · cases verdict with
    | proceed => exact blocksLaw_channelTurn hh
    | noise => exact blocksLaw_completeRound _ _ ha
  · exact blocksLaw_endAbandonment ha ht

theorem blocksLaw_roundAfterChannel : BlocksLaw (roundAfterChannel s) := by
  unfold roundAfterChannel
  obtain ⟨ha, ⟨r, hr, hh⟩ | ⟨r, hr, ht⟩⟩ := h <;> simp only [hr]
  · exact blocksLaw_channelTurn hh
  · exact blocksLaw_endAbandonment ha ht

theorem blocksLaw_roundAfterHeld (target : Target) : BlocksLaw (roundAfterHeld target s) := by
  unfold roundAfterHeld
  obtain ⟨ha, ⟨r, hr, hh⟩ | ⟨r, hr, ht⟩⟩ := h <;> simp only [hr]
  · have hclaim : ∀ x, BlocksLaw (claimAgain x s) := fun x =>
      blocksLaw_claim hh rfl x (by rw [← hr])
    cases target with
    | ref => exact hclaim _
    | channel i =>
      dsimp only
      split
      · exact hclaim _
      · exact blocksLaw_channelTurn hh
  · exact blocksLaw_endAbandonment ha ht

end

theorem sameBlocks_applyReference (raw : Nat) (s : State) : SameBlocks s (applyReference raw s) := by
  constructor <;> simp [SameRoles]

theorem sameBlocks_applySample (i : Fin 32) (raw : Nat) (s : State) :
    SameBlocks s (applySample i raw s) := by
  constructor <;> simp
  exact SameRoles.write rfl

section
variable {s : State} (hs : BlocksLaw s) {cv : Conversion} (hcv : s.converter = some cv)
include hs hcv

/-- A slot is CONVERTING only while its own conversion is in flight. -/
theorem slot_ne_converting_of_scan (hcl : cv.claimant = .scan) (x : Target) (l : Nat) :
    s.slot ≠ .converting x l := by
  intro hx
  obtain ⟨cv', hcv', hhost, _⟩ := hs.slot x l hx
  rw [hcv, Option.some.injEq] at hcv'
  simp [← hcv', hcl] at hhost

/-- A conversion of the round leaves the round its outcome. -/
theorem outcomeHanded_release (hcl : cv.claimant = .scan) (ho : cv.ofRound = true) :
    OutcomeHanded (releaseConverter s) := by
  have hf : roundInFlight s = true := (roundInFlight_iff s).mpr ⟨cv, hcv, hcl, ho⟩
  have hslot := slot_ne_converting_of_scan hs hcv hcl
  obtain ⟨l1, l2, l3, ⟨t1, t2, t3, t4, t5⟩, l5, l6⟩ := hs
  unfold RoundWorkLaw at l3
  rw [hf] at l3
  have hnone : s.scanClaim = none := by
    cases hr : s.scan.round <;> simp [hr] at l3
    · exact l3
    · exact l3
  have ha : BlocksLaw (roundAside (releaseConverter s)) := by
    refine ⟨by simp [HeldLaw, roundAside], fun _ => rfl, ?_, ⟨t1, t2, ?_, ?_, t5⟩, ?_, ?_⟩
    · simp [RoundWorkLaw, roundAside, roundInFlight, hnone]
    · simp [roundAside]
    · simp [roundAside]
    · simp [RoundKindLaw, roundAside]
    · intro x l hx
      exact absurd hx (hslot x l)
  refine ⟨ha, ?_⟩
  cases hr : s.scan.round with
  | idle => simp [hr] at l3
  | holdWait => simp [hr] at l3
  | running r =>
    refine .inl ⟨r, hr, ha, fun hn => (t4 hn).1, ?_⟩
    obtain ⟨k1, k2⟩ := l5 r hr
    cases hk : r.kind with
    | active => exact k1 hk
    | watch => exact k2 hk
  | closing r =>
    refine .inr ⟨r, hr, ?_⟩
    by_contra hn
    obtain ⟨_, q, hq⟩ := t4 hn
    simp [hr] at hq

/-- A conversion that no round owns leaves the laws as they are. -/
theorem blocksLaw_release (hcl : cv.claimant = .scan) (ho : cv.ofRound = false) :
    BlocksLaw (releaseConverter s) := by
  have hf : roundInFlight s = false := by simp [roundInFlight, hcv, ho]
  have hslot := slot_ne_converting_of_scan hs hcv hcl
  obtain ⟨l1, l2, l3, l4, l5, l6⟩ := hs
  refine ⟨by simp [HeldLaw], fun _ => rfl, ?_, l4, l5, fun x l hx => absurd hx (hslot x l)⟩
  unfold RoundWorkLaw at *
  rw [hf] at l3
  exact l3

theorem blocksLaw_finishScan (raw : Nat) (hcl : cv.claimant = .scan) :
    BlocksLaw (finishScan cv raw (releaseConverter s)) := by
  have own := outcomeHanded_release hs hcv hcl
  have free := blocksLaw_release hs hcv hcl
  cases ho : cv.ofRound with
  | false =>
    unfold finishScan
    simp only [ho, Bool.false_eq_true, if_false]
    split
    · exact (sameBlocks_applyReference _ _).law (free ho)
    · exact (sameBlocks_applySample _ _ _).law (free ho)
    · exact free ho
    · exact free ho
  | true =>
    unfold finishScan
    simp only [ho, if_true]
    split
    · exact blocksLaw_roundAfterReference ((own ho).congr (sameBlocks_applyReference _ _)) _
    · exact blocksLaw_roundAfterChannel ((own ho).congr (sameBlocks_applySample _ _ _))
    · exact blocksLaw_roundAfterHeld (own ho) _
    · exact blocksLaw_roundAfterChannel (own ho)

theorem blocksLaw_finishHost (raw : Nat) (hcl : cv.claimant = .host) :
    BlocksLaw (finishHost cv raw (releaseConverter s)) := by
  have hf : roundInFlight s = false := by simp [roundInFlight, hcv, hcl]
  obtain ⟨l1, l2, l3, ⟨t1, t2, t3, t4, t5⟩, l5, l6⟩ := hs
  unfold RoundWorkLaw at l3
  rw [hf] at l3
  obtain ⟨x, l, hx, ⟨_, h⟩ | ⟨_, h⟩⟩ | ⟨hx, h⟩ := finishHost_cases cv raw (releaseConverter s) <;>
    rw [h]
  · refine ⟨by simp [HeldLaw], fun _ => rfl, l3, ⟨t1, t2, t3, t4, fun hn => ⟨(t5 hn).1, rfl⟩⟩, l5, ?_⟩
    simp [SlotLaw]
  · refine ⟨by simp [HeldLaw], fun _ => rfl, l3, ⟨t1, t2, t3, t4, fun hn => absurd rfl hn⟩, l5, ?_⟩
    simp [SlotLaw]
  · exact ⟨by simp [HeldLaw], fun _ => rfl, l3, ⟨t1, t2, t3, t4, t5⟩, l5,
      fun x l hs => absurd hs (hx x l)⟩

end

/-- The completion of a conversion keeps the laws, the arbiter's too (R112, R118). -/
theorem blocksLaw_completeConversion {s : State} (hs : BlocksLaw s) {cv : Conversion}
    (hcv : s.converter = some cv) (raw : Nat) :
    BlocksLaw (completeConversion raw s) ∧ ArbiterLaw (completeConversion raw s) := by
  cases hcl : cv.claimant with
  | host =>
    rw [completeConversion_host raw hcv hcl]
    exact ⟨blocksLaw_grant (blocksLaw_finishHost hs hcv raw hcl), arbiterLaw_grant _⟩
  | scan =>
    rw [completeConversion_scan raw hcv hcl]
    exact ⟨blocksLaw_grant (blocksLaw_finishScan hs hcv raw hcl), arbiterLaw_grant _⟩

/-! ### A change of mode -/

/-- The laws of the blocks but for that of the round's kind, which a new mode breaks until the old round
is abandoned. -/
structure ModeWritten (s : State) : Prop where
  held : HeldLaw s
  pins : IdlePinsLaw s
  work : RoundWorkLaw s
  timers : TimerLaw s
  slot : SlotLaw s

theorem modeWritten_writeMode (mode : ScanMode) {s : State} (hs : BlocksLaw s) :
    ModeWritten (writeMode mode s) := by
  obtain ⟨l1, l2, l3, ⟨t1, t2, t3, t4, t5⟩, -, l6⟩ := hs
  cases mode with
  | paused => exact ⟨l1, l2, l3, ⟨fun _ => rfl, fun _ => rfl, t3, t4, t5⟩, l6⟩
  | active => exact ⟨l1, l2, l3, ⟨fun hn => absurd rfl hn, fun _ => rfl, t3, t4, t5⟩, l6⟩
  | watch => exact ⟨l1, l2, l3, ⟨fun _ => rfl, fun hn => absurd rfl hn, t3, t4, t5⟩, l6⟩

/-- With its round put aside, and no claim and no conversion of one, the part obeys the laws. -/
theorem ModeWritten.aside {s : State} (hs : ModeWritten s) (hf : roundInFlight s = false)
    (hc : s.scanClaim = none) : BlocksLaw (roundAside s) := by
  obtain ⟨l1, l2, -, ⟨t1, t2, t3, t4, t5⟩, l6⟩ := hs
  refine ⟨l1, l2, ⟨hf, hc⟩, ⟨t1, t2, ?_, ?_, t5⟩, ?_, l6⟩ <;> simp [RoundKindLaw, roundAside]

/-- The old round ends, or is CLOSING, and the laws hold in the new mode (R154). -/
theorem blocksLaw_abandonForMode {s : State} (hs : ModeWritten s) :
    BlocksLaw (abandonForMode s) := by
  have hw := hs.work
  have hstop : (∀ r, s.scan.round ≠ .running r) → s.scan.holdTimer = .stopped := by
    intro hr
    by_contra hn
    obtain ⟨_, r, h⟩ := hs.timers.2.2.2.1 hn
    exact hr r h
  unfold RoundWorkLaw at hw
  unfold abandonForMode
  split
  · rename_i r hr
    simp only [hr] at hw
    obtain ⟨l1, l2, l3, ⟨t1, t2, t3, t4, t5⟩, l6⟩ := hs
    split
    · rename_i hf
      have hc : s.scanClaim = none := by simpa [hf] using hw
      refine ⟨l1, l2, ⟨hf, hc⟩, ⟨t1, t2, ?_, ?_, t5⟩, ?_, l6⟩ <;> simp [RoundKindLaw]
    · rename_i hf
      have hf' : roundInFlight s = false := by simpa using hf
      refine blocksLaw_endAbandonment ⟨l1, l2, ⟨hf', rfl⟩, ⟨t1, t2, ?_, ?_, t5⟩, ?_, l6⟩ rfl <;>
        simp [RoundKindLaw, roundAside]
  · rename_i r hr
    refine ⟨hs.held, hs.pins, hs.work, hs.timers, fun q hq => ?_, hs.slot⟩
    simp [hr] at hq
  · rename_i hr
    simp only [hr] at hw
    exact blocksLaw_endAbandonment (hs.aside hw.1 hw.2) (hstop (by simp [hr]))
  · rename_i hr
    simp only [hr] at hw
    exact blocksLaw_endAbandonment (hs.aside hw.1 hw.2) (hstop (by simp [hr]))

/-- The laws while the blocks run, the arbiter's among them. -/
def RunLaw (s : State) : Prop := BlocksLaw s ∧ ArbiterLaw s

/-- A grant brings the arbiter's law to a state that obeys the others. -/
theorem runLaw_grant {s : State} (hs : BlocksLaw s) : RunLaw (grant s) :=
  ⟨blocksLaw_grant hs, arbiterLaw_grant s⟩

/-- A change of mode keeps the laws (R153 to R158). -/
theorem runLaw_changeMode (mode : ScanMode) {s : State} (hs : BlocksLaw s) :
    RunLaw (changeMode mode s) :=
  runLaw_grant (blocksLaw_abandonForMode (modeWritten_writeMode mode hs))

/-! ### Requests -/

theorem SameBlocks.runLaw {s t : State} (h : SameBlocks s t) (hs : RunLaw s) : RunLaw t :=
  ⟨h.law hs.1, h.arbiter hs.2⟩

theorem RunLaw.answer {s : State} (hs : RunLaw s) (r : Reply) : RunLaw (answer r s) := by
  refine SameBlocks.runLaw ?_ hs
  exact ⟨rfl, rfl, rfl, rfl, rfl, rfl, fun _ => rfl, rfl⟩

theorem RunLaw.judged {s : State} (hs : RunLaw s) : RunLaw (judgeAttn s) := by
  refine SameBlocks.runLaw ?_ hs
  constructor <;> simp [SameRoles]

theorem runLaw_takeSetMode (mode : ScanMode) {s : State} (hs : RunLaw s) :
    RunLaw (takeSetMode mode s) := by
  unfold takeSetMode
  split
  · exact hs.answer _
  · split
    · exact hs.answer _
    · exact (runLaw_changeMode mode hs.1).answer _

theorem runLaw_takeSetSettings (r : SettingsOperands) {s : State} (hs : RunLaw s) :
    RunLaw (takeSetSettings r s) := by
  unfold takeSetSettings
  split
  · refine RunLaw.answer (RunLaw.judged (SameBlocks.runLaw ?_ hs)) _
    exact ⟨rfl, rfl, rfl, rfl, rfl, rfl, fun _ => rfl, rfl⟩
  · exact hs.answer _

theorem runLaw_takeGetChannel (b : Byte) {s : State} (hs : RunLaw s) :
    RunLaw (takeGetChannel b s) := by
  unfold takeGetChannel
  split <;> exact hs.answer _

theorem runLaw_takeSetChannel (b : Byte) (f : ChannelOperands) {s : State} (hs : RunLaw s) :
    RunLaw (takeSetChannel b f s) := by
  unfold takeSetChannel
  split
  · refine RunLaw.answer (SameBlocks.runLaw ?_ hs) _
    exact ⟨rfl, rfl, rfl, rfl, rfl, rfl, SameRoles.write (role_reconfigure _ _), rfl⟩
  · exact hs.answer _
  · exact hs.answer _

/-- A change of role keeps the laws: a pin follows its role at once while the converter is IDLE, and a
conversion that loses its role stays the round's (R5, R6, R115). -/
theorem runLaw_applyRole (i : Fin 32) (role : Role) {s : State} (hs : RunLaw s) :
    RunLaw (applyRole i role s) := by
  have hlose : ∀ cv, (loseRole i role cv).claimant = cv.claimant
      ∧ (loseRole i role cv).target = cv.target ∧ (loseRole i role cv).level = cv.level
      ∧ (loseRole i role cv).held = cv.held ∧ (loseRole i role cv).ofRound = cv.ofRound := by
    intro cv
    unfold loseRole
    split <;> simp
  have hf : roundInFlight (applyRole i role s) = roundInFlight s := by
    simp only [roundInFlight, applyRole]
    cases s.converter with
    | none => rfl
    | some cv =>
      obtain ⟨h1, _, _, _, h5⟩ := hlose cv
      simp [h1, h5]
  obtain ⟨⟨l1, l2, l3, l4, l5, l6⟩, la⟩ := hs
  refine ⟨⟨fun cv' hcv hh => ?_, fun hn => ?_, ?_, l4, l5, fun x l hx => ?_⟩, fun hn hh => ?_⟩
  · obtain ⟨cv, hc, rfl⟩ := Option.map_eq_some_iff.mp hcv
    exact (hlose cv).2.2.2.1.trans (l1 cv hc hh)
  · have hc : s.converter = none := Option.map_eq_none_iff.mp hn
    apply Table.ext_read
    intro j
    simp only [applyRole, pinsAfterRole, hc, l2 hc, Table.read_write, read_idlePins]
    split <;> simp
  · unfold RoundWorkLaw at *
    rw [hf]
    exact l3
  · obtain ⟨cv, hc, h1, h2, h3⟩ := l6 x l hx
    obtain ⟨e1, e2, e3, _, _⟩ := hlose cv
    exact ⟨loseRole i role cv, by simp [applyRole, hc], e1.trans h1, e2.trans h2, e3.trans h3⟩
  · exact la (Option.map_eq_none_iff.mp hn) hh

theorem runLaw_takeSetRole (b code : Byte) {s : State} (hs : RunLaw s) :
    RunLaw (takeSetRole b code s) := by
  unfold takeSetRole
  split
  · split
    · exact hs.answer _
    · exact (runLaw_applyRole _ _ hs).answer _
  · exact hs.answer _
  · exact hs.answer _

theorem runLaw_takeCalibrate (mask : BitVec 32) (flag : Byte) {s : State} (hs : RunLaw s) :
    RunLaw (takeCalibrate mask flag s) := by
  unfold takeCalibrate
  split
  · exact hs.answer _
  · refine RunLaw.answer (SameBlocks.runLaw ?_ hs) _
    constructor <;> simp [SameRoles]

theorem runLaw_takeDefineZone (b kind th : Byte) (ms : List Byte) {s : State} (hs : RunLaw s) :
    RunLaw (takeDefineZone b kind th ms s) := by
  unfold takeDefineZone
  split
  · exact hs.answer _
  · split
    · exact hs.answer _
    · refine RunLaw.answer (SameBlocks.runLaw ?_ hs) _
      exact ⟨rfl, rfl, rfl, rfl, rfl, rfl, fun _ => rfl, rfl⟩

theorem runLaw_takeDeleteZone (b : Byte) {s : State} (hs : RunLaw s) :
    RunLaw (takeDeleteZone b s) := by
  unfold takeDeleteZone
  split
  · exact hs.answer _
  · split
    · exact hs.answer _
    · refine RunLaw.answer (RunLaw.judged (SameBlocks.runLaw ?_ hs)) _
      exact ⟨rfl, rfl, rfl, rfl, rfl, rfl, fun _ => rfl, rfl⟩

theorem runLaw_takeGetZone (b : Byte) {s : State} (hs : RunLaw s) : RunLaw (takeGetZone b s) := by
  unfold takeGetZone
  split <;> exact hs.answer _

/-- All that queueing a measurement does (R122, R124). -/
theorem queueMeasurement_eq (target : Target) (level : Nat) (s : State) :
    queueMeasurement target level s =
      { s with
        slot := .queued target level
        slotTimer := if s.hold then .running s.settings.holdLimit else s.slotTimer } := by
  unfold queueMeasurement
  dsimp only
  split <;> rfl

/-- A measurement takes a slot that none is outstanding in (R122). -/
theorem blocksLaw_queueMeasurement (target : Target) (level : Nat) {s : State} (hs : BlocksLaw s)
    (ho : s.slot.isOutstanding = false) : BlocksLaw (queueMeasurement target level s) := by
  rw [queueMeasurement_eq]
  obtain ⟨l1, l2, l3, ⟨t1, t2, t3, t4, t5⟩, l5, l6⟩ := hs
  refine ⟨l1, l2, l3, ⟨t1, t2, t3, t4, fun hn => ⟨?_, rfl⟩⟩, l5, fun x l hx => by simp at hx⟩
  cases hh : s.hold with
  | true => rfl
  | false =>
    simp only [hh, Bool.false_eq_true, if_false] at hn
    have := (t5 hn).2
    simp [ho] at this

theorem runLaw_takeMeasure (target level : Byte) {s : State} (hs : RunLaw s) :
    RunLaw (takeMeasure target level s) := by
  unfold takeMeasure
  split
  · split
    · exact hs.answer _
    · rename_i ho
      exact (runLaw_grant (blocksLaw_queueMeasurement _ _ hs.1 (by simpa using ho))).answer _
  · exact hs.answer _
  · exact hs.answer _

/-! ### Resets -/

/-- A reset of every block leaves the laws (R127, R163). -/
theorem runLaw_fullResetBlocks {slot : Slot} (hq : slot = .none ∨ slot = .aborted) (s : State) :
    RunLaw (fullResetBlocks slot s) := by
  have hslot : ∀ x l, slot ≠ .converting x l ∧ slot ≠ .queued x l := by
    obtain rfl | rfl := hq <;> simp
  refine ⟨⟨by simp [HeldLaw, fullResetBlocks], fun _ => ?_, ⟨rfl, rfl⟩, ?_, ?_, ?_⟩, fun _ _ => ⟨rfl, ?_⟩⟩
  · apply Table.ext_read
    intro i
    simp [fullResetBlocks, Channel.fullReset, ChannelConfig.fullReset, idleDriveOf]
  · simp [TimerLaw, fullResetBlocks, Scan.fullReset]
  · simp [RoundKindLaw, fullResetBlocks, Scan.fullReset]
  · exact fun x l hx => absurd hx (hslot x l).1
  · exact fun x l => (hslot x l).2

/-- A scan reset leaves the laws, the round state IDLE (R127, R164). -/
theorem runLaw_scanResetBlocks (s : State) : RunLaw (scanResetBlocks s) := by
  refine ⟨⟨by simp [HeldLaw, scanResetBlocks], fun _ => ?_, ⟨rfl, rfl⟩, ?_, ?_, ?_⟩,
    fun _ _ => ⟨rfl, ?_⟩⟩
  · exact idlePins_congr fun i => by simp [scanResetBlocks]
  · simp [TimerLaw, scanResetBlocks]
  · simp [RoundKindLaw, scanResetBlocks]
  · simp [SlotLaw, scanResetBlocks]
  · simp [scanResetBlocks]

/-- The rounds restart by the mode kept (R164). -/
theorem runLaw_restartByMode {s : State} (hs : RunLaw s) (hr : s.scan.round = .idle) :
    RunLaw (restartByMode s) := by
  unfold restartByMode
  split
  · exact hs
  · rename_i hm
    exact runLaw_grant (blocksLaw_startRound hs.1 hr hm)
  · rename_i hm
    obtain ⟨⟨l1, l2, l3, ⟨t1, t2, t3, t4, t5⟩, l5, l6⟩, la⟩ := hs
    exact ⟨⟨l1, l2, l3, ⟨t1, fun hn => absurd hm hn, t3, t4, t5⟩, l5, l6⟩, la⟩

theorem runLaw_resetInProgress (kind : ResetKind) (cause : ResetCause) {s : State}
    (hs : RunLaw s) : RunLaw (resetInProgress kind cause s) := by
  refine SameBlocks.runLaw ?_ hs
  constructor <;> simp [resetInProgress, SameRoles]

theorem runLaw_completeFullReset (cause : ResetCause) (level : Bool) (s : State) :
    RunLaw (completeFullReset cause level s) := by
  refine RunLaw.judged (SameBlocks.runLaw ?_ (runLaw_fullResetBlocks (.inl rfl) s))
  constructor <;> simp [SameRoles]

theorem runLaw_completeRequestedReset (kind : ResetKind) (level : Bool) {s : State}
    (hs : RunLaw s) : RunLaw (completeRequestedReset kind level s) := by
  refine RunLaw.judged (SameBlocks.runLaw ?_ hs)
  constructor <;> simp [resetStands, SameRoles]

/-! ### HOLD and the timers -/

/-- A conversion in flight as HOLD's assertion leaves it (R120). -/
def heldConversion (cv : Conversion) : Conversion := { cv with held := true }

/-- A conversion in flight as a hold timeout leaves it: no longer the round's (R161). -/
def disowned (cv : Conversion) : Conversion :=
  if cv.claimant = .scan then { cv with ofRound := false } else cv

/-- The round state is RUNNING (R142). -/
def RoundState.isRunning : RoundState → Bool
  | .running _ => true
  | .idle => false
  | .closing _ => false
  | .holdWait => false

theorem RoundState.isRunning_iff {x : RoundState} : x.isRunning = true ↔ ∃ r, x = .running r := by
  cases x <;> simp [RoundState.isRunning]

/-- The measurement's hold-limit timer starts for an outstanding measurement (R124). -/
theorem startSlotTimer_eq (s : State) :
    startSlotTimer s =
      { s with
        slotTimer := if s.slot.isOutstanding then .running s.settings.holdLimit else s.slotTimer } := by
  unfold startSlotTimer
  split <;> rename_i hs
  · rw [if_pos (by simp [hs, Slot.isOutstanding])]
  · rw [if_pos (by simp [hs, Slot.isOutstanding])]
  all_goals rw [if_neg (by simp [hs, Slot.isOutstanding])]

/-- The round's hold-limit timer starts for a RUNNING round (R160). -/
theorem startRoundHoldTimer_eq (s : State) :
    startRoundHoldTimer s =
      { s with scan := { s.scan with
          holdTimer :=
            if s.scan.round.isRunning then .running s.settings.holdLimit else s.scan.holdTimer } } := by
  unfold startRoundHoldTimer
  split <;> rename_i hr
  · rw [if_pos (by simp [hr, RoundState.isRunning])]
  all_goals rw [if_neg (by simp [hr, RoundState.isRunning])]

/-- All that HOLD asserting does (R120, R124, R160). -/
theorem holdBegins_eq (s : State) :
    holdBegins s =
      { s with
        converter := s.converter.map heldConversion
        slotTimer := if s.slot.isOutstanding then .running s.settings.holdLimit else s.slotTimer
        scan := { s.scan with
          holdTimer :=
            if s.scan.round.isRunning then .running s.settings.holdLimit else s.scan.holdTimer } } := by
  rw [holdBegins, startRoundHoldTimer_eq, startSlotTimer_eq]
  rfl

/-- HOLD asserting keeps the laws: the conversion in flight is held, and a timer starts only where its
rule lets it (R120, R124, R160). -/
theorem runLaw_holdBegins {s : State} (hs : RunLaw s) :
    RunLaw (holdBegins { s with hold := true }) := by
  rw [holdBegins_eq]
  obtain ⟨⟨l1, l2, l3, ⟨t1, t2, t3, t4, t5⟩, l5, l6⟩, -⟩ := hs
  have hf : ∀ c : Option Conversion,
      roundInFlight { s with converter := c.map heldConversion }
        = roundInFlight { s with converter := c } := by
    rintro (_ | cv) <;> rfl
  refine ⟨⟨?_, ?_, ?_, ⟨t1, t2, fun _ => rfl, ?_, ?_⟩, l5, ?_⟩, fun _ hn => by simp at hn⟩
  · intro cv hcv _
    obtain ⟨cv', _, rfl⟩ := Option.map_eq_some_iff.mp hcv
    rfl
  · exact fun hn => l2 (Option.map_eq_none_iff.mp hn)
  · have hf' := hf s.converter
    unfold RoundWorkLaw roundInFlight at *
    dsimp only at hf' ⊢
    rw [hf']
    exact l3
  · intro hn
    refine ⟨rfl, RoundState.isRunning_iff.mp ?_⟩
    by_contra hr
    dsimp only at hn
    rw [if_neg hr] at hn
    exact hr (RoundState.isRunning_iff.mpr (t4 hn).2)
  · intro hn
    refine ⟨rfl, ?_⟩
    by_contra ho
    dsimp only at hn
    rw [if_neg ho] at hn
    exact ho (t5 hn).2
  · intro x l hx
    obtain ⟨cv, hc, h1, h2, h3⟩ := l6 x l hx
    exact ⟨heldConversion cv, by simp [hc], h1, h2, h3⟩

/-- HOLD releasing keeps the laws: its timers stop, a hold wait ends, and the arbiter grants what
waits (R120, R161). -/
theorem runLaw_holdEnds {s : State} (hs : RunLaw s) :
    RunLaw (holdEnds { s with hold := false }) := by
  refine runLaw_grant ?_
  obtain ⟨⟨l1, l2, l3, ⟨t1, t2, t3, t4, t5⟩, l5, l6⟩, -⟩ := hs
  have hheld : HeldLaw { s with hold := false } := fun _ _ hn => by simp at hn
  unfold endHoldWait
  split
  · rename_i hr
    dsimp only at hr
    unfold RoundWorkLaw at l3
    rw [hr] at l3
    unfold restartModeTimer startRoundTimer startWatchTimer
    dsimp only
    split
    · exact ⟨hheld, l2, l3, ⟨t1, t2, by simp, by simp, by simp⟩, by simp [RoundKindLaw], l6⟩
    · rename_i hm
      exact ⟨hheld, l2, l3, ⟨fun hn => absurd hm hn, t2, by simp, by simp, by simp⟩,
        by simp [RoundKindLaw], l6⟩
    · rename_i hm
      exact ⟨hheld, l2, l3, ⟨t1, fun hn => absurd hm hn, by simp, by simp, by simp⟩,
        by simp [RoundKindLaw], l6⟩
  all_goals
    rename_i hr
    dsimp only at hr
    exact ⟨hheld, l2, l3, ⟨t1, t2, by simp [hr], by simp, by simp⟩, l5, l6⟩

/-- The expiry of the round timer keeps the laws: it runs in ACTIVE alone (R148). -/
theorem runLaw_roundTimer {s : State} (hs : RunLaw s) {ms : Nat}
    (ht : s.scan.roundTimer = .running ms) :
    RunLaw (grant (startIfDue { s with scan := { s.scan with roundTimer := .expired } })) := by
  refine runLaw_grant (blocksLaw_startIfDue ?_)
  obtain ⟨⟨l1, l2, l3, ⟨t1, t2, t3, t4, t5⟩, l5, l6⟩, -⟩ := hs
  refine ⟨l1, l2, l3, ⟨fun hn => ?_, t2, t3, t4, t5⟩, l5, l6⟩
  have := t1 hn
  simp [ht] at this

/-- The expiry of the watch timer keeps the laws: it runs in WATCH alone (R148). -/
theorem runLaw_watchTimer {s : State} (hs : RunLaw s) {ms : Nat}
    (ht : s.scan.watchTimer = .running ms) :
    RunLaw (grant (startIfDue { s with scan := { s.scan with watchTimer := .expired } })) := by
  refine runLaw_grant (blocksLaw_startIfDue ?_)
  obtain ⟨⟨l1, l2, l3, ⟨t1, t2, t3, t4, t5⟩, l5, l6⟩, -⟩ := hs
  refine ⟨l1, l2, l3, ⟨t1, fun hn => ?_, t3, t4, t5⟩, l5, l6⟩
  have := t2 hn
  simp [ht] at this

/-- A hold timeout keeps the laws: HOLD is asserted, no claim is left and the conversion in flight is no
longer a round's (R161). -/
theorem runLaw_holdTimeout {s : State} (hs : RunLaw s) (ht : s.scan.holdTimer ≠ .stopped) :
    RunLaw (holdTimeout s) := by
  obtain ⟨⟨l1, l2, l3, ⟨t1, t2, t3, t4, t5⟩, l5, l6⟩, -⟩ := hs
  have hh : s.hold = true := (t4 ht).1
  refine ⟨⟨?_, ?_, ⟨?_, rfl⟩, ⟨fun _ => rfl, fun _ => rfl, fun _ => hh, by simp [holdTimeout], t5⟩, ?_,
    ?_⟩, fun _ hn => ?_⟩
  · intro cv hcv _
    obtain ⟨cv', hc, rfl⟩ := Option.map_eq_some_iff.mp hcv
    have := l1 cv' hc hh
    split <;> exact this
  · exact fun hn => l2 (Option.map_eq_none_iff.mp hn)
  · unfold roundInFlight holdTimeout
    cases s.converter with
    | none => rfl
    | some cv => cases hcl : cv.claimant <;> simp [hcl]
  · simp [RoundKindLaw, holdTimeout]
  · intro x l hx
    obtain ⟨cv, hc, h1, h2, h3⟩ := l6 x l hx
    exact ⟨cv, by simp [holdTimeout, hc, h1], h1, h2, h3⟩
  · simp [holdTimeout, hh] at hn

/-- A measurement held off keeps the laws: HOLD is asserted (R124). -/
theorem runLaw_holdOff {s : State} (hs : RunLaw s) (ht : s.slotTimer ≠ .stopped) :
    RunLaw (holdOff s) := by
  have hh : s.hold = true := (hs.1.timers.2.2.2.2 ht).1
  have hoff : ∀ x l, RunLaw { s with slot := .heldOff x l, slotTimer := .stopped } := by
    intro x l
    obtain ⟨⟨l1, l2, l3, ⟨t1, t2, t3, t4, -⟩, l5, -⟩, -⟩ := hs
    exact ⟨⟨l1, l2, l3, ⟨t1, t2, t3, t4, by simp⟩, l5, by simp [SlotLaw]⟩,
      fun _ hn => by simp [hh] at hn⟩
  unfold holdOff
  split
  · exact hoff _ _
  · exact hoff _ _
  all_goals exact hs

/-! ### Every step -/

/-- Every taking keeps the laws. -/
theorem runLaw_taking {c : Instr} {take : State → State} (hc : taking c = some take) {s : State}
    (hs : RunLaw s) : RunLaw (take s) := by
  cases c <;> cases hc
  case clearStatus mask =>
    refine RunLaw.answer (RunLaw.judged (SameBlocks.runLaw ?_ hs)) _
    exact ⟨rfl, rfl, rfl, rfl, rfl, rfl, fun _ => rfl, rfl⟩
  case setModePaused => exact runLaw_takeSetMode _ hs
  case setModeActive => exact runLaw_takeSetMode _ hs
  case setModeWatch => exact runLaw_takeSetMode _ hs
  case resetFull => exact runLaw_resetInProgress _ _ (runLaw_fullResetBlocks (.inr rfl) s)
  case resetScan =>
    exact runLaw_resetInProgress _ _ (runLaw_restartByMode (runLaw_scanResetBlocks s) rfl)
  case setSettings r => exact runLaw_takeSetSettings r hs
  case getChannel b => exact runLaw_takeGetChannel b hs
  case setChannel b f => exact runLaw_takeSetChannel b f hs
  case setRole b r => exact runLaw_takeSetRole b r hs
  case calibrate m f => exact runLaw_takeCalibrate m f hs
  case defineZone b k t ms => exact runLaw_takeDefineZone b k t ms hs
  case deleteZone b => exact runLaw_takeDeleteZone b hs
  case getZone b => exact runLaw_takeGetZone b hs
  case ackContacts ps =>
    refine RunLaw.answer (RunLaw.judged (SameBlocks.runLaw ?_ hs)) _
    exact ⟨rfl, rfl, rfl, rfl, rfl, rfl, fun _ => rfl, rfl⟩
  case measure x l => exact runLaw_takeMeasure x l hs
  all_goals exact hs.answer _

theorem scanningLaw_of_runLaw {s : State} (h : RunLaw s) : ScanningLaw s :=
  (scanningLaw_iff s).mpr fun _ => h

/-- Nothing is asked of a part whose blocks do not run. -/
theorem scanningLaw_of_held {s : State} (h : blocksRun s = false) : ScanningLaw s :=
  fun hn => by simp [h] at hn

theorem takingsKeep_scanningLaw : TakingsKeep ScanningLaw := fun _ _ s hc hp hs =>
  scanningLaw_of_runLaw
    (runLaw_taking hc ((scanningLaw_iff s).mp hs (blocksRun_running hp)))

/-- RSTN's rise changes no other level and no block. -/
theorem scanningLaw_rstn {s : State} (b : Bool) (hs : ScanningLaw s) :
    ScanningLaw { s with rstnLow := b } := hs

/-- Every event keeps the laws, those that take the supply or start a reset for want of running
blocks. -/
theorem eventsKeep_scanningLaw : EventsKeep ScanningLaw := by
  intro c s t h hs
  have hrun : blocksRun s = true → RunLaw s := (scanningLaw_iff s).mp hs
  cases h with
  | ignored => exact hs
  | powerOn => exact scanningLaw_of_held rfl
  | startUpWaits h => exact scanningLaw_of_held rfl
  | startUpEnds => exact scanningLaw_of_runLaw (runLaw_completeFullReset _ _ _)
  | rstnFalls => exact scanningLaw_of_held rfl
  | rstnFallsHeld h => exact scanningLaw_of_held h
  | rstnRises => exact scanningLaw_of_runLaw (runLaw_completeFullReset _ _ _)
  | rstnRisesOnly => exact scanningLaw_rstn _ hs
  | holdBegins h hh => exact scanningLaw_of_runLaw (runLaw_holdBegins (hrun h))
  | holdBeginsHeld h => exact scanningLaw_of_held h
  | holdEnds h hh => exact scanningLaw_of_runLaw (runLaw_holdEnds (hrun h))
  | holdEndsHeld h => exact scanningLaw_of_held h
  | resetCompletes h =>
    exact scanningLaw_of_runLaw
      (runLaw_completeRequestedReset _ _ (hrun (blocksRun_eq_true.mpr (.inr ⟨_, h⟩))))
  | converted h hc =>
    exact scanningLaw_of_runLaw (RunLaw.judged (blocksLaw_completeConversion (hrun h).1 hc _))
  | roundTimer h ht => exact scanningLaw_of_runLaw (runLaw_roundTimer (hrun h) ht)
  | watchTimer h ht => exact scanningLaw_of_runLaw (runLaw_watchTimer (hrun h) ht)
  | roundHeldOff h ht hr =>
    exact scanningLaw_of_runLaw (RunLaw.judged (runLaw_holdTimeout (hrun h) (by simp [ht])))
  | measureHeldOff h ht => exact scanningLaw_of_runLaw (runLaw_holdOff (hrun h) (by simp [ht]))
  | supplyFalls => exact scanningLaw_of_held rfl

/-- Settles O58: the blocks keep all the laws but the arbiter's through every operation, and the grant
that follows brings the arbiter's back. -/
theorem stepKeepsScanningLaw : Obligations.StepKeepsScanningLaw := fun _ _ hs hst =>
  step_keeps (P := ScanningLaw) (fun _ _ h => h)
    (fun _ _ _ hs he =>
      exec_keeps (fun _ _ _ h => h) takingsKeep_scanningLaw eventsKeep_scanningLaw hs he) hs hst

end Sys2Proof.Machine
end

section
/-! PROOFS. The step, the reset state and the requests that are not taken (R165, R170). -/

namespace Sys2Proof.Machine

/-- Settles O1: `step` splits on the queue alone. -/
theorem stepRunsTheFrontCommand : Obligations.StepRunsTheFrontCommand := by
  refine ⟨fun c rest s h => ?_, fun s h => ?_⟩ <;> unfold step <;> rw [h]

/-- Settles O2: each value is read off the definitions of the reset state. -/
theorem resetHoldsTheStatedValues : Obligations.ResetHoldsTheStatedValues := by
  refine ⟨rfl, rfl, rfl, rfl, rfl, rfl, rfl, rfl, rfl, ?_, rfl, ?_, ?_, ?_, rfl, rfl, rfl, rfl, rfl,
    rfl, rfl, rfl, rfl⟩
  · intro e
    simp [State.reset]
  · intro e
    cases e <;> rfl
  · intro i
    simp [State.reset, Channel.fullReset, ChannelConfig.fullReset, ChannelDynamics.cleared]
  · intro i
    simp [State.reset]

/-- No zone of the reset state is DEFINED. -/
theorem read_zones_reset (i : Fin 16) (z : Zone) : Table.read State.reset.zones i ≠ some z := by
  simp [State.reset]

/-- Settles O3: the tables are empty, and the blocks stand as after a completed power-on reset. -/
theorem resetMeetsEveryLaw : Obligations.ResetMeetsEveryLaw := by
  refine ⟨?_, ⟨settingsInRange_fullReset, fun i => ?_⟩, ?_, ?_, ?_, ?_⟩
  · exact iff_of_true rfl (.inr ⟨.resetDone, rfl, rfl⟩)
  · simpa [State.reset] using channelLaw_fullReset
  · exact ⟨fun i z h => absurd h (read_zones_reset i z),
      fun i _ z _ h => absurd h (read_zones_reset i z)⟩
  · simp [ContactTableLaw, State.reset]
  · exact ⟨fun i z _ h => absurd h (read_zones_reset i z), by simp [State.reset],
      fun i z h => absurd h (read_zones_reset i z)⟩
  · exact scanningLaw_of_runLaw (runLaw_completeFullReset .power false .reset)

/-- Settles O10: a request that is not in hand is not taken while another executes, and none is while
the part does not run. -/
theorem noRequestIsTakenInBetween : Obligations.NoRequestIsTakenInBetween := by
  intro c s hc h
  obtain ⟨take, ht⟩ := exists_taking hc
  rw [exec_taking ht]
  obtain hp | ⟨he, hf⟩ := h
  · rw [deliver_notRunning take hp]
  · rw [deliver_other take he hf]

end Sys2Proof.Machine
end

section
/-! PROOFS. Frames: the request a frame carries, its judgement, and what the transactions show
(R165 to R172, R175, R184 to R189). -/

namespace Sys2Proof.Machine

/-! ### The request that a frame carries (R184 to R189) -/

/-- The parsing of the pairs undoes their writing (R188). -/
theorem parsePairs_flatMap (ps : List (Byte × Byte)) :
    parsePairs (ps.flatMap fun p => [p.1, p.2]) = some ps := by
  induction ps with
  | nil => rfl
  | cons p ps ih =>
    simp only [List.flatMap_cons, List.cons_append, List.nil_append, parsePairs, ih]
    rfl

/-- A channel mask is read from the four bytes that carry it (R184). -/
theorem mask_of_bytes (m : BitVec 32) :
    m.extractLsb' 24 8 ++ m.extractLsb' 16 8 ++ m.extractLsb' 8 8 ++ m.extractLsb' 0 8 = m := by
  apply BitVec.eq_of_getLsbD_eq
  intro i hi
  simp only [BitVec.getLsbD_append, BitVec.getLsbD_extractLsb']
  grind

/-- A request is read from its code and operands. -/
theorem parseRequest_requestBody {c : Instr} {code : Byte} {operands : List Byte}
    (h : requestBody c = some (code, operands)) : parseRequest code operands = some c := by
  cases c <;> simp only [requestBody, Option.some.injEq, Prod.mk.injEq, reduceCtorEq] at h <;>
    obtain ⟨rfl, rfl⟩ := h
  case clearStatus m => exact congrArg (some ∘ Instr.clearStatus) (wordOf_wordBytes m)
  case setSettings r =>
    simp [parseRequest, settingsOperandBytes, maskBytes, wordBytes, parseSettings, wordOf_wordBytes]
  case setChannel i f =>
    simp [parseRequest, channelOperandBytes, maskBytes, wordBytes, parseSetChannel,
      wordOf_wordBytes]
  case calibrate m f =>
    exact congrArg (fun x => some (Instr.calibrate x f)) (mask_of_bytes m)
  case ackContacts ps =>
    simp [parseRequest, parsePairs_flatMap]
  all_goals rfl

/-- The operands of a frame are read back as they were written. -/
theorem parseFrame_frameBytes (code : Byte) {operands : List Byte} (h : operands.length ≤ 64) :
    parseFrame (storedBytes (frameBytes code operands)) = parseRequest code operands := by
  rw [storedBytes_eq (by simp; omega), frameBytes_eq]
  simp [parseFrame, toNat_byteOf (show operands.length < 256 by omega)]

section
variable {c : Instr} (hw : WellFormed c = true) (hc : requestBody c ≠ none)
include hw hc

/-- The frame of a well-formed request passes R168. -/
theorem judgeFrame_requestFrameOf : judgeFrame (requestFrameOf c) = none := by
  obtain ⟨⟨code, operands⟩, hb⟩ := Option.ne_none_iff_exists'.mp hc
  obtain ⟨hk, hl, hn⟩ := operands_fit c code operands hw hb
  simp only [requestFrameOf, hb]
  exact judgeFrame_frameBytes hk hl (by omega)

/-- The frame of a well-formed request is read as that request. -/
theorem parseFrame_requestFrameOf : parseFrame (storedBytes (requestFrameOf c)) = some c := by
  obtain ⟨⟨code, operands⟩, hb⟩ := Option.ne_none_iff_exists'.mp hc
  obtain ⟨_, _, hn⟩ := operands_fit c code operands hw hb
  simp only [requestFrameOf, hb]
  rw [parseFrame_frameBytes code (by omega), parseRequest_requestBody hb]

end

/-- The frame of a request holds its code, a length and a check byte. -/
theorem requestFrameOf_ne_nil {c : Instr} (hc : requestBody c ≠ none) : requestFrameOf c ≠ [] := by
  obtain ⟨⟨code, operands⟩, hb⟩ := Option.ne_none_iff_exists'.mp hc
  simp [requestFrameOf, hb, frameBytes_eq]

/-- A byte of a channel mask (R184). -/
theorem extractLsb'_eq (m : BitVec 32) (k : Nat) :
    m.extractLsb' k 8 = (m >>> k).setWidth 8 := by
  apply BitVec.eq_of_getLsbD_eq
  intro i hi
  simp [hi]

theorem channelMaskBytes_eq (m : BitVec 32) :
    channelMaskBytes m =
      [m.setWidth 8, (m >>> 8).setWidth 8, (m >>> 16).setWidth 8, (m >>> 24).setWidth 8] := by
  simp only [channelMaskBytes, extractLsb'_eq]
  rfl

/-- Settles O5: the layouts command by command, and the parsing that undoes them. -/
theorem requestFrameCarriesItsRequest : Obligations.RequestFrameCarriesItsRequest := by
  unfold Obligations.RequestFrameCarriesItsRequest
  intro word
  refine ⟨?_, ?_, fun c hw hc =>
    ⟨judgeFrame_requestFrameOf hw hc, parseFrame_requestFrameOf hw hc⟩⟩
  · intro c
    cases c
    case clearStatus m => simp only [requestBody, maskBytes, wordBytes_toNat, word]
    case setSettings r =>
      simp only [requestBody, settingsOperandBytes, maskBytes, wordBytes_toNat, word]
    case setChannel i f =>
      simp only [requestBody, channelOperandBytes, maskBytes, wordBytes_toNat, word]
      rfl
    case calibrate m f =>
      simp only [requestBody, channelMaskBytes_eq]
      rfl
    all_goals rfl
  · intro c code operands h
    simp only [requestFrameOf, h]
    rfl

end Sys2Proof.Machine
end

section
/-! PROOFS. A written frame and its hand-off: what a request does does not depend on the frame it was
carried in (R167, R170). -/

namespace Sys2Proof.Machine

/-! ### Operations that leave the port alone -/

/-- The state with another port. -/
def withPort (p : Port) (s : State) : State := { s with port := p }

/-- An operation that neither reads nor writes the port. -/
def PortFree (f : State → State) : Prop := ∀ p s, f (withPort p s) = withPort p (f s)

theorem PortFree.comp {f g : State → State} (hf : PortFree f) (hg : PortFree g) :
    PortFree fun s => f (g s) := fun p s => (congrArg f (hg p s)).trans (hf p (g s))

theorem portFree_judgeAttn : PortFree judgeAttn := fun p s => by
  unfold judgeAttn withPort
  dsimp only
  split <;> rfl

theorem portFree_grant : PortFree grant := fun p s => by
  unfold grant withPort
  dsimp only
  split
  · rfl
  · split <;> rfl

theorem portFree_startRound (kind : RoundKind) : PortFree (startRound kind) := fun _ _ => rfl

theorem portFree_startIfDue : PortFree startIfDue := fun p s => by
  unfold startIfDue withPort
  dsimp only
  split
  · split <;> rfl
  · split <;> rfl
  · rfl

theorem portFree_quietChannels : PortFree quietChannels := fun _ _ => rfl

theorem portFree_enterMode : PortFree enterMode := fun p s => by
  cases hm : s.scan.mode with
  | paused => simp only [enterMode, withPort, hm]
  | active =>
    have h (t : State) (ht : t.scan.mode = .active) : enterMode t = startRound .active t := by
      simp only [enterMode, ht]
    rw [h _ hm, h (withPort p s) hm, portFree_startRound]
  | watch =>
    have h (t : State) (ht : t.scan.mode = .watch) : enterMode t = startIfDue (quietChannels t) := by
      simp only [enterMode, ht, quietChannels]
    rw [h _ hm, h (withPort p s) hm, portFree_quietChannels, portFree_startIfDue]

theorem portFree_endAbandonment : PortFree endAbandonment :=
  portFree_enterMode.comp (g := fun s => { s with scan := { s.scan with round := .idle } })
    fun _ _ => rfl

/-- A RUNNING round without a conversion in flight, withdrawn (R154). -/
theorem portFree_withdrawn : PortFree fun s =>
    endAbandonment { s with scanClaim := none, scan := { s.scan with holdTimer := .stopped } } :=
  portFree_endAbandonment.comp
    (g := fun s => { s with scanClaim := none, scan := { s.scan with holdTimer := .stopped } })
    fun _ _ => rfl

theorem portFree_abandonForMode : PortFree abandonForMode := fun p s => by
  have hf : roundInFlight (withPort p s) = roundInFlight s := rfl
  have hr : (withPort p s).scan.round = s.scan.round := rfl
  cases h : s.scan.round with
  | running r =>
    simp only [abandonForMode, hf, hr, h]
    cases roundInFlight s with
    | true => rfl
    | false => exact portFree_withdrawn p s
  | closing r => simp only [abandonForMode, hr, h]
  | idle =>
    simp only [abandonForMode, hr, h]
    exact portFree_endAbandonment p s
  | holdWait =>
    simp only [abandonForMode, hr, h]
    exact portFree_endAbandonment p s

theorem portFree_writeMode (mode : ScanMode) : PortFree (writeMode mode) := by
  cases mode <;> exact fun _ _ => rfl

theorem portFree_changeMode (mode : ScanMode) : PortFree (changeMode mode) :=
  portFree_grant.comp (portFree_abandonForMode.comp (portFree_writeMode mode))

theorem portFree_queueMeasurement (target : Target) (level : Nat) :
    PortFree (queueMeasurement target level) := fun p s => by
  rw [queueMeasurement_eq, queueMeasurement_eq]
  rfl

theorem portFree_scanReset : PortFree fun s => restartByMode (scanResetBlocks s) := fun p s => by
  unfold restartByMode
  have hm : (scanResetBlocks (withPort p s)).scan.mode = (scanResetBlocks s).scan.mode := rfl
  simp only [hm]
  split
  · rfl
  · exact portFree_grant p (startRound .active (scanResetBlocks s))
  · rfl

/-! ### The frame in hand -/

/-- The answer after an operation that leaves the port alone does not depend on the frame. -/
theorem PortFree.answer {f : State → State} (hf : PortFree f) (r : Reply) (b : List Byte)
    (s : State) : answer r (f (holdFrame b s)) = answer r (f s) := by
  have hsame : f s = withPort s.port (f s) := hf s.port s
  have hport : (f s).port = s.port := by
    rw [hsame]
    rfl
  have hheld : f (holdFrame b s) = withPort (holdFrame b s).port (f s) := hf _ s
  rw [hheld]
  simp [Machine.answer, withPort, holdFrame, hport]

/-- A taking that does not depend on the frame its request was carried in. -/
def FrameFree (take : State → State) : Prop := ∀ b s, take (holdFrame b s) = take s

theorem frameFree_takeSetMode (mode : ScanMode) : FrameFree (takeSetMode mode) := fun b s => by
  have hm : (holdFrame b s).scan.mode = s.scan.mode := rfl
  have hw : watchBlocked (holdFrame b s) = watchBlocked s := rfl
  unfold takeSetMode
  rw [hm, hw]
  split
  · rfl
  · split
    · rfl
    · exact (portFree_changeMode mode).answer _ b s

theorem frameFree_takeMeasure (target level : Byte) : FrameFree (takeMeasure target level) :=
  fun b s => by
    have ho : (holdFrame b s).slot = s.slot := rfl
    unfold takeMeasure
    rw [ho]
    split
    · split
      · rfl
      · exact (portFree_grant.comp (portFree_queueMeasurement _ _)).answer _ b s
    · rfl
    · rfl

theorem frameFree_takeSetSettings (r : SettingsOperands) : FrameFree (takeSetSettings r) :=
  fun b s => by
    unfold takeSetSettings
    split
    · exact (portFree_judgeAttn.comp (g := fun s => { s with settings := settingsOf r })
        fun _ _ => rfl).answer _ b s
    · rfl

theorem frameFree_takeDeleteZone (index : Byte) : FrameFree (takeDeleteZone index) := fun b s => by
  have hz : (holdFrame b s).zones = s.zones := rfl
  unfold takeDeleteZone
  rw [hz]
  split
  · rfl
  · rename_i i _
    split
    · rfl
    · rename_i z _
      exact (portFree_judgeAttn.comp
        (g := fun s => { s with
          contacts := contactsAfterDelete z s.contacts, zones := Table.write s.zones i none })
        fun _ _ => rfl).answer _ b s

theorem frameFree_takeAckContacts (pairs : List (Byte × Byte)) :
    FrameFree (takeAckContacts pairs) := fun b s =>
  (portFree_judgeAttn.comp
    (g := fun s => { s with contacts := (ackList pairs s.contacts).2 }) fun _ _ => rfl).answer _ b s

theorem frameFree_takeClearStatus (mask : BitVec 16) : FrameFree (takeClearStatus mask) :=
  fun b s =>
    (portFree_judgeAttn.comp
      (g := fun s => { s with events := s.events &&& ~~~(mask.setWidth 11) })
      fun _ _ => rfl).answer _ b s

theorem frameFree_takeSetChannel (index : Byte) (f : ChannelOperands) :
    FrameFree (takeSetChannel index f) := fun b s => by
  unfold takeSetChannel
  split <;> rfl

theorem frameFree_takeSetRole (index role : Byte) : FrameFree (takeSetRole index role) :=
  fun b s => by
    have hm : ∀ i, isMember i (holdFrame b s) = isMember i s := fun _ => rfl
    unfold takeSetRole
    simp only [hm]
    split
    · split <;> rfl
    · rfl
    · rfl

theorem frameFree_takeDefineZone (index kind threshold : Byte) (members : List Byte) :
    FrameFree (takeDefineZone index kind threshold members) := fun b s => by
  have hr : ∀ o, defineRefusal o (holdFrame b s) = defineRefusal o s := fun _ => rfl
  unfold takeDefineZone
  simp only [hr]
  split
  · rfl
  · split <;> rfl

/-- A reset in progress has its own port. -/
theorem frameFree_takeResetScan : FrameFree takeResetScan := fun b s =>
  congrArg (resetInProgress .scan .scan) (portFree_scanReset (holdFrame b s).port s) |>.trans rfl

/-- No taking depends on the frame that its request was carried in. -/
theorem frameFree_taking {c : Instr} {take : State → State} (h : taking c = some take) :
    FrameFree take := by
  cases c <;> cases h
  case clearStatus mask => exact frameFree_takeClearStatus mask
  case setModePaused => exact frameFree_takeSetMode _
  case setModeActive => exact frameFree_takeSetMode _
  case setModeWatch => exact frameFree_takeSetMode _
  case resetScan => exact frameFree_takeResetScan
  case setSettings r => exact frameFree_takeSetSettings r
  case getChannel b => exact fun _ _ => by unfold takeGetChannel; split <;> rfl
  case setChannel b f => exact frameFree_takeSetChannel b f
  case setRole b r => exact frameFree_takeSetRole b r
  case calibrate m f => exact fun _ _ => by unfold takeCalibrate; split <;> rfl
  case defineZone b k t ms => exact frameFree_takeDefineZone b k t ms
  case deleteZone i => exact frameFree_takeDeleteZone i
  case getZone b => exact fun _ _ => by unfold takeGetZone; split <;> rfl
  case ackContacts ps => exact frameFree_takeAckContacts ps
  case measure x l => exact frameFree_takeMeasure x l
  all_goals exact fun _ _ => rfl

/-! ### A write to the part's address (R166, R167) -/

section
variable {s : State} {address : BitVec 7} (hr : Ready s)
  (ha : address = (if s.adselHigh then 0x3B#7 else 0x3A#7))
include hr ha

/-- A write with data bytes is received, and what it shows is `frameSeen`. -/
theorem exec_requestFrame {bytes : List Byte} (hb : bytes ≠ []) (ending : FrameEnd) :
    exec (.requestFrame address { bytes := bytes, ending := ending }) s =
      .next (showBus (frameSeen bytes.length ending) (receiveFrame bytes s)) := by
  have hack : acknowledges address s = true := acknowledges_iff.mpr ⟨hr, ha⟩
  have hne : bytes.isEmpty = false := by simpa using hb
  have hseen : ({ BusView.written bytes.length with
      addressedAtOnce := addressedAtOnce ending (holdFrame bytes s) } : BusView)
      = frameSeen bytes.length ending := by
    cases ending with
    | stop => rfl
    | repeatedStart a => simp [addressedAtOnce, frameSeen, BusView.written]
  simp only [exec, execRequestFrame, hack, hne, if_true, Bool.false_eq_true, if_false, hseen]

end

/-- A frame that passes R168 and is read as a request stays in hand. -/
theorem receiveFrame_held {bytes : List Byte} {c : Instr} (hj : judgeFrame bytes = none)
    (hp : parseFrame (storedBytes bytes) = some c) (s : State) :
    receiveFrame bytes s = holdFrame bytes s := by
  simp [receiveFrame, judgeHeld, hj, hp]

/-- A frame that R168 refuses is answered at once. -/
theorem receiveFrame_refused {bytes : List Byte} {status : Status}
    (hj : judgeFrame bytes = some status) (s : State) :
    receiveFrame bytes s = refuse status s := by
  simp [receiveFrame, judgeHeld, hj]

/-- A frame that passes R168 and carries no request of the table is answered RANGE. -/
theorem receiveFrame_range {bytes : List Byte} (hj : judgeFrame bytes = none)
    (hp : parseFrame (storedBytes bytes) = none) (s : State) :
    receiveFrame bytes s = refuse .range s := by
  simp [receiveFrame, judgeHeld, hj, hp]

/-- Settles O6: the frame of the request stays in hand, and no taking depends on it. -/
theorem frameThenHandOffIsTheRequest : Obligations.FrameThenHandOffIsTheRequest := by
  intro c s hw hc hr
  obtain ⟨take, ht⟩ := exists_taking hc
  have hp := parseFrame_requestFrameOf hw hc
  have hseen : frameSeen (requestFrameOf c).length .stop = .written (requestFrameOf c).length := rfl
  have hin : Takes c (showBus (.written (requestFrameOf c).length) (holdFrame (requestFrameOf c) s)) :=
    ⟨hr.1, fun _ => hp⟩
  refine ⟨showBus (.written (requestFrameOf c).length) (holdFrame (requestFrameOf c) s), ?_, rfl, ?_⟩
  · rw [exec_requestFrame hr rfl (requestFrameOf_ne_nil hc),
      receiveFrame_held (judgeFrame_requestFrameOf hw hc) hp, hseen]
  · rw [exec_takes ht hw hin, exec_takes ht hw (takes_of_ready hr),
      handOff_inHand c rfl, handOff_whole c hr.2]
    exact congrArg _ (frameFree_taking ht (requestFrameOf c)
      (showBus (.written (requestFrameOf c).length) s))

/-! ### The judgement in order (R168) -/

/-- A byte count that is not the operand length and three is FRAMING (R168). -/
theorem judgeFrame_framing {code len check : Byte} {operands : List Byte}
    (h : 64 < len.toNat ∨ operands.length ≠ len.toNat) :
    judgeFrame (code :: len :: (operands ++ [check])) = some .framing := by
  have hc : countedBytes (code :: len :: (operands ++ [check])) = min (operands.length + 3) 68 := by
    simp [countedBytes]
  have hs : storedBytes (code :: len :: (operands ++ [check])) =
      code :: len :: (operands ++ [check]).take 65 := rfl
  rw [judgeFrame, hs, hc, judgeStored, if_pos]
  simp only [Bool.or_eq_true, decide_eq_true_eq, bne_iff_ne]
  omega

/-- A write of one or two bytes is FRAMING (R168). -/
theorem judgeFrame_short {bytes : List Byte} (h : bytes ≠ []) (hl : bytes.length < 3) :
    judgeFrame bytes = some .framing := by
  match bytes, h, hl with
  | [_], _, _ => rfl
  | [_, _], _, _ => rfl

/-- The codes of R185. -/
abbrev requestCodes : List Byte :=
  [0x01#8, 0x02#8, 0x03#8, 0x04#8, 0x05#8, 0x10#8, 0x11#8, 0x20#8, 0x21#8, 0x22#8, 0x23#8,
    0x30#8, 0x31#8, 0x32#8, 0x40#8, 0x41#8, 0x42#8, 0x50#8, 0x51#8]

theorem knownCode_eq (code : Byte) : knownCode code = decide (code ∈ requestCodes) := by
  rw [knownCode, List.contains_eq_mem]

/-- The operand lengths of R185, code by code. -/
abbrev LengthFits (code : Byte) (n : Nat) : Prop :=
  (n = 0 ∧ code ∈ [0x01#8, 0x02#8, 0x10#8, 0x40#8, 0x41#8, 0x51#8])
    ∨ (n = 1 ∧ code ∈ [0x04#8, 0x05#8, 0x20#8, 0x31#8, 0x32#8])
    ∨ (n = 2 ∧ code ∈ [0x03#8, 0x22#8, 0x50#8]) ∨ (n = 5 ∧ code = 0x23#8)
    ∨ (n = 10 ∧ code = 0x21#8) ∨ (n = 19 ∧ code = 0x11#8)
    ∨ (4 ≤ n ∧ n ≤ 11 ∧ code = 0x30#8)
    ∨ (2 ≤ n ∧ n ≤ 20 ∧ n % 2 = 0 ∧ code = 0x42#8)

/-- For a known code the operand lengths allowed are those of R185. -/
theorem lengthAllowed_iff {code : Byte} (hk : code ∈ requestCodes) (n : Nat) :
    lengthAllowed code n = true ↔ LengthFits code n := by
  simp only [requestCodes, List.mem_cons, List.not_mem_nil, or_false] at hk
  rcases hk with rfl | rfl | rfl | rfl | rfl | rfl | rfl | rfl | rfl | rfl | rfl | rfl | rfl | rfl |
    rfl | rfl | rfl | rfl | rfl <;> simp [lengthAllowed, LengthFits, and_assoc]

/-- The mode and the reset kind that a frame may name (R153, R180). -/
abbrev NamesRequest (code : Byte) (operands : List Byte) : Prop :=
  (code = 0x04#8 → operands ∈ [[0#8], [1#8], [2#8]])
    ∧ (code = 0x05#8 → operands ∈ [[1#8], [2#8]])

theorem parsePairs_isSome {bytes : List Byte} (h : bytes.length % 2 = 0) :
    (parsePairs bytes).isSome = true := by
  match bytes with
  | [] => rfl
  | [_] => simp at h
  | _ :: _ :: rest =>
    have := parsePairs_isSome (bytes := rest) (by simp at h; omega)
    simpa [parsePairs] using this

theorem modeRequest_isSome (mode : Byte) :
    (modeRequest mode).isSome = true ↔ mode = 0#8 ∨ mode = 1#8 ∨ mode = 2#8 := by
  unfold modeRequest
  split_ifs <;> simp [*]

theorem resetRequest_isSome (kind : Byte) :
    (resetRequest kind).isSome = true ↔ kind = 1#8 ∨ kind = 2#8 := by
  unfold resetRequest
  split_ifs <;> simp [*]

/-- Of the frames that pass R168, those with a mode above 2 or a reset kind other than 1 and 2 carry no
request (R184). -/
theorem parseRequest_isSome_iff {code : Byte} {operands : List Byte}
    (h : LengthFits code operands.length) :
    (parseRequest code operands).isSome = true ↔ NamesRequest code operands := by
  simp only [LengthFits, List.mem_cons, List.not_mem_nil, or_false] at h
  rcases h with ⟨hn, hc⟩ | ⟨hn, hc⟩ | ⟨hn, hc⟩ | ⟨hn, rfl⟩ | ⟨hn, rfl⟩ | ⟨hn, rfl⟩ | ⟨hn, _, rfl⟩ |
    ⟨_, _, hn, rfl⟩
  · obtain rfl := List.length_eq_zero_iff.mp hn
    rcases hc with rfl | rfl | rfl | rfl | rfl | rfl <;>
      simp [parseRequest, NamesRequest, parseBare]
  · obtain ⟨a, rfl⟩ := List.length_eq_one_iff.mp hn
    rcases hc with rfl | rfl | rfl | rfl | rfl <;>
      simp [parseRequest, NamesRequest, parseOne, modeRequest_isSome, resetRequest_isSome]
  · obtain ⟨a, b, rfl⟩ := List.length_eq_two.mp hn
    rcases hc with rfl | rfl | rfl <;> simp [parseRequest, NamesRequest, parseTwo]
  · match operands, hn with
    | [_, _, _, _, _], _ => simp [parseRequest, NamesRequest, parseCalibrate]
  · match operands, hn with
    | [_, _, _, _, _, _, _, _, _, _], _ => simp [parseRequest, NamesRequest, parseSetChannel]
  · match operands, hn with
    | [_, _, _, _, _, _, _, _, _, _, _, _, _, _, _, _, _, _, _], _ =>
      simp [parseRequest, NamesRequest, parseSettings]
  · match operands, hn with
    | _ :: _ :: _ :: _, _ => simp [parseRequest, NamesRequest, parseDefineZone]
  · simp [parseRequest, NamesRequest, parsePairs_isSome hn]

/-- What the end of a write of a code, a length, operands and a check byte leaves, in the order of
R168. -/
theorem receiveFrame_eq (code len check : Byte) (operands : List Byte) (s : State) :
    receiveFrame (code :: len :: (operands ++ [check])) s =
      if 64 < len.toNat ∨ operands.length ≠ len.toNat then refuse .framing s
      else if check ≠ crc8 (code :: len :: operands) then refuse .check s
      else if code ∉ requestCodes then refuse .unknown s
      else if ¬ LengthFits code operands.length then refuse .length s
      else if ¬ NamesRequest code operands then refuse .range s
      else holdFrame (code :: len :: (operands ++ [check])) s := by
  by_cases hlen : 64 < len.toNat ∨ operands.length ≠ len.toNat
  · rw [if_pos hlen, receiveFrame_refused (judgeFrame_framing hlen)]
  rw [if_neg hlen]
  obtain ⟨h64, hl⟩ : len.toNat ≤ 64 ∧ operands.length = len.toNat := by
    simpa [not_or] using hlen
  have hj := judgeFrame_of_length (code := code) (check := check) hl h64
  have hparse : parseFrame (storedBytes (code :: len :: (operands ++ [check]))) =
      parseRequest code operands := by
    rw [storedBytes_eq (by simp; omega)]
    simp [parseFrame, ← hl]
  by_cases hcheck : check ≠ crc8 (code :: len :: operands)
  · rw [if_pos hcheck] at hj ⊢
    exact receiveFrame_refused hj s
  rw [if_neg hcheck] at hj ⊢
  by_cases hknown : code ∈ requestCodes
  case neg =>
    rw [if_pos hknown]
    rw [if_pos (by rw [knownCode_eq, decide_eq_false hknown]; rfl)] at hj
    exact receiveFrame_refused hj s
  rw [if_neg (not_not.mpr hknown)]
  rw [if_neg (by rw [knownCode_eq, decide_eq_true hknown]; decide)] at hj
  have hfits := lengthAllowed_iff hknown operands.length
  by_cases hfit : LengthFits code operands.length
  case neg =>
    rw [if_pos hfit]
    rw [if_pos (by rw [Bool.not_eq_true', ← Bool.not_eq_true, ← hl, hfits]; exact hfit)] at hj
    exact receiveFrame_refused hj s
  rw [if_neg (not_not.mpr hfit)]
  rw [if_neg (by rw [Bool.not_eq_true', ← Bool.not_eq_true, ← hl, hfits]; exact not_not.mpr hfit)] at hj
  have hsome := parseRequest_isSome_iff hfit
  by_cases hname : NamesRequest code operands
  · obtain ⟨c, hc⟩ := Option.isSome_iff_exists.mp (hsome.mpr hname)
    rw [if_neg (not_not.mpr hname), receiveFrame_held hj (hparse.trans hc)]
  · have hnone : parseRequest code operands = none := by
      rw [← Option.not_isSome_iff_eq_none, hsome]
      exact hname
    rw [if_pos hname, receiveFrame_range hj (hparse.trans hnone)]

/-- Settles O7: the four checks of R168 in order, then the reading of the request. -/
theorem framesAreJudgedInOrder : Obligations.FramesAreJudgedInOrder := by
  intro s address code len check operands ending hr ha bytes seen write refused count known fits
    named
  have hwrite : write = .next (showBus seen (receiveFrame bytes s)) :=
    exec_requestFrame hr ha (by simp [bytes]) ending
  have hknown : known = false ↔ code ∉ requestCodes := decide_eq_false_iff_not
  have hfits : fits = false ↔ ¬ LengthFits code operands.length := decide_eq_false_iff_not
  have hnamed : named = false ↔ ¬ NamesRequest code operands := decide_eq_false_iff_not
  have hstored (h : operands.length = len.toNat) (h' : len.toNat ≤ 64) :
      storedBytes bytes = bytes ∧ countedBytes bytes = operands.length + 3 := by
    have hlen : bytes.length = operands.length + 3 := by simp [bytes]
    exact ⟨storedBytes_eq (by omega), (countedBytes_eq (by omega)).trans hlen⟩
  rw [receiveFrame_eq] at hwrite
  split_ifs with h1 h2 h3 h4 h5
  · rwa [if_pos h1] at hwrite
  · rwa [if_neg h1, if_pos h2] at hwrite
  · rwa [if_neg h1, if_neg h2, if_pos (hknown.mp h3)] at hwrite
  · rwa [if_neg h1, if_neg h2, if_neg (hknown.not.mp h3), if_pos (hfits.mp h4)] at hwrite
  · rwa [if_neg h1, if_neg h2, if_neg (hknown.not.mp h3), if_neg (hfits.not.mp h4),
      if_pos (hnamed.mp h5)] at hwrite
  · rw [if_neg h1, if_neg h2, if_neg (hknown.not.mp h3), if_neg (hfits.not.mp h4),
      if_neg (hnamed.not.mp h5)] at hwrite
    obtain ⟨hs, hc⟩ := hstored (by omega) (by omega)
    rw [hwrite]
    show Host.Outcome.next (showBus seen (holdFrame bytes s)) = _
    rw [holdFrame, hs, hc]
    rfl

/-! ### Probes, reads and cut transactions (R166, R172, R175) -/

/-- The number of bytes sent in a read runs to the first that the host does not acknowledge (R166). -/
theorem sentCount_eq (acks : List Bool) :
    sentCount acks =
      if false ∈ acks then (acks.takeWhile fun a => a).length + 1 else acks.length := by
  induction acks with
  | nil => rfl
  | cons a acks ih =>
    cases a with
    | false => simp [sentCount]
    | true =>
      rw [sentCount, ih]
      simp only [List.mem_cons, Bool.false_eq_true, false_or, List.takeWhile_cons, if_true,
        List.length_cons]
      split <;> rfl

/-- What a read returns, place by place (R172). -/
theorem getD_read (r : Reply) {n k : Nat} (h : k < n) :
    (r.read n).getD k 0#8 = r.bytes.getD k 0xFF#8 := by
  simp [Reply.read, List.getD, h]

/-- Settles O8: the part takes part exactly where it acknowledges, and what it sends is the reply
frame. -/
theorem transactionsAtTheAddress : Obligations.TransactionsAtTheAddress := by
  refine ⟨?_, ?_⟩
  · intro s address bytes ending acks h ignored
    have hack : acknowledges address s = false := by
      rw [acknowledges_eq_false]
      rintro ⟨⟨hp, he⟩, ha⟩
      simp [hp, he, ha] at h
    refine ⟨addressedAtOnce ending s, ?_, ?_, ?_, ?_, ?_⟩
    · rintro rfl
      rfl
    · rintro next rfl
      simp only [addressedAtOnce, Option.some.injEq]
      rw [Bool.eq_iff_iff, acknowledges_iff, decide_eq_true_iff, Ready, and_assoc]
    · simp [exec, execRequestFrame, hack, showBus, BusView.ignored, ignored]
    · simp [exec, execAddressProbe, hack, showBus, BusView.ignored, ignored]
    · simp [exec, execReplyRead, hack, showBus, BusView.ignored, ignored]
  · intro s address acks hr ha
    have hack : acknowledges address s = true := acknowledges_iff.mpr ⟨hr, ha⟩
    refine ⟨?_, ?_, s.port.reply.read (sentCount acks), s.port.reply.status.code, ?_, ?_, ?_, ?_⟩
    · simp [exec, execAddressProbe, hack, showBus, BusView.written]
    · intro bytes ending hb hl
      rw [exec_requestFrame hr ha hb, receiveFrame_refused (judgeFrame_short hb hl)]
      rfl
    · simp [exec, execReplyRead, hack, showBus, BusView.answered]
    · rw [length_read, sentCount_eq]
    · cases s.port.reply.status <;> rfl
    · intro front k hk
      rw [length_read] at hk
      rw [getD_read _ hk]
      rfl

/-- Settles O9: the bus timeout abandons the transaction where the port takes part in one. -/
theorem busTimeoutDiscardsTheTransaction : Obligations.BusTimeoutDiscardsTheTransaction := by
  refine ⟨?_, ?_⟩
  · intro s cut hr
    have hready : portReady s = true := portReady_iff.mpr hr
    have hport : (abandonTransaction s).port =
        { frame := [], frameCount := 0, reply := s.port.reply, executing := false, sdaLow := false
          timeoutRunning := false } := by
      simp [abandonTransaction, hr.2]
    cases cut with
    | write bytes =>
      refine ⟨.written bytes.length, ?_, by simp, ?_⟩
      · rintro _ ⟨⟩
        rfl
      · simp only [exec, execBusTimeout, hready, if_true, showBus, hport]
        rfl
    | read acks =>
      refine ⟨.answered (s.port.reply.read (sentCount acks)), by simp, ?_, ?_⟩
      · rintro _ ⟨⟩
        have hack := acknowledges_iff.mpr ⟨hr, rfl⟩
        simp only [exec, execReplyRead, hack, if_true, showBus]
      · simp only [exec, execBusTimeout, hready, if_true, showBus, hport]
        rfl
  · intro s cut h
    have hready : portReady s = false := by
      rw [← Bool.not_eq_true, portReady_iff]
      rintro ⟨hp, he⟩
      simp [hp, he] at h
    simp [exec, execBusTimeout, hready]

end Sys2Proof.Machine
end

section
/-! PROOFS. Requests that read: the payloads byte by byte (R104, R176, R186 to R189). -/

namespace Sys2Proof.Machine

/-! ### Bytes of masks and numbers -/

/-- An event set as a mask of two bytes (R186). -/
theorem eventBytes_eq (e : EventSet) :
    eventBytes e =
      [(BitVec.setWidth 16 e).setWidth 8, (BitVec.setWidth 16 e >>> 8).setWidth 8] := by
  rw [← wordBytes_toNat, eventBytes, BitVec.toNat_setWidth_of_le (by omega)]

/-- The places of a mask of two bytes that an event set fills (R186). -/
theorem getLsbD_setWidth_position (e : EventSet) (ev : StatusEvent) :
    (BitVec.setWidth 16 e).getLsbD ev.position = EventSet.has e ev := by
  have := position_lt ev
  simp [EventSet.has, show ev.position < 16 by omega]

theorem getLsbD_setWidth_above (e : EventSet) {k : Nat} (h : 10 < k) :
    (BitVec.setWidth 16 e).getLsbD k = false := by
  rw [BitVec.getLsbD_setWidth, BitVec.getLsbD_of_ge e k (by omega), Bool.and_false]

/-- Two bytes carry a number's residue by 65536 alone (R184). -/
theorem wordBytes_eq (n : Nat) :
    wordBytes n = [(BitVec.ofNat 16 n).setWidth 8, (BitVec.ofNat 16 n >>> 8).setWidth 8] := by
  rw [← wordBytes_toNat, BitVec.toNat_ofNat]
  simp only [wordBytes, byteOf, List.cons.injEq, and_true]
  constructor <;> apply BitVec.eq_of_toNat_eq <;> simp only [BitVec.toNat_ofNat] <;> omega

theorem signedBytes_eq (d : Int) :
    signedBytes d = [(BitVec.ofInt 16 d).setWidth 8, (BitVec.ofInt 16 d >>> 8).setWidth 8] := by
  rw [← wordBytes_toNat, signedBytes, BitVec.toNat_ofInt]
  rfl

/-- A sum of powers of two, one for each place that is on, has exactly those bits. -/
theorem testBit_sum (f : Nat → Bool) (n : Nat) :
    ((List.range n).map fun i => if f i then 2 ^ i else 0).sum < 2 ^ n
      ∧ ∀ k, k < n → ((List.range n).map fun i => if f i then 2 ^ i else 0).sum.testBit k = f k := by
  induction n with
  | zero => simp
  | succ n ih =>
    obtain ⟨hlt, hbit⟩ := ih
    simp only [List.range_succ, List.map_append, List.map_cons, List.map_nil, List.sum_append,
      List.sum_cons, List.sum_nil, Nat.add_zero]
    generalize ((List.range n).map fun i => if f i then 2 ^ i else 0).sum = m at hlt hbit ⊢
    cases hn : f n with
    | false =>
      refine ⟨by simp; omega, fun k hk => ?_⟩
      obtain rfl | hk := Nat.lt_succ_iff_lt_or_eq.mp hk |>.symm
      · simp [Nat.testBit_lt_two_pow hlt, hn]
      · simp [hbit k hk]
    | true =>
      refine ⟨by simp; omega, fun k hk => ?_⟩
      rw [if_pos rfl, Nat.add_comm]
      obtain rfl | hk := Nat.lt_succ_iff_lt_or_eq.mp hk |>.symm
      · rw [Nat.testBit_two_pow_add_eq, Nat.testBit_lt_two_pow hlt, hn]
        rfl
      · rw [Nat.testBit_two_pow_add_gt hk, hbit k hk]

/-- Bit `n` of the pending zone mask is Zn's pending flag (R104). -/
theorem getLsbD_pendingMask (zones : Vector (Option Zone) 16) (i : Fin 16) :
    (BitVec.ofNat 16 (pendingMask zones)).getLsbD i.val = zonePending (Table.read zones i) := by
  have hsum : pendingMask zones = ((List.range 16).map fun k =>
      if (if h : k < 16 then zonePending (Table.read zones ⟨k, h⟩) else false) then 2 ^ k
      else 0).sum := by
    rw [← List.map_coe_finRange_eq_range, List.map_map]
    simp [pendingMask, Function.comp_def]
  rw [BitVec.getLsbD_ofNat, hsum, (testBit_sum _ 16).2 i.val i.isLt]
  simp

theorem zonePending_iff (z : Option Zone) :
    zonePending z = true ↔ ∃ w, z = some w ∧ w.pending = true := by
  cases z <;> simp [zonePending]

/-! ### The requests that read -/

/-- What a request answers that leaves everything but the port as it was. -/
theorem exec_reads {c : Instr} {payload : State → List Byte} {s : State}
    (hc : taking c = some fun s => answerOk (payload s) s) (hw : WellFormed c = true)
    (hp : ∀ b, payload { s with bus := b } = payload s) (h : Takes c s) :
    exec c s = .next (afterReply c { status := .ok, payload := payload s } s) := by
  rw [exec_takes hc hw h, answerOk_handOff, handOff_eq, hp]

/-- What a request answers that is refused. -/
theorem exec_refused {c : Instr} {take : State → State} {status : Status} {s : State}
    (hc : taking c = some take) (hw : WellFormed c = true) (h : Takes c s)
    (ht : take (handOff c s) = refuse status (handOff c s)) :
    exec c s = .next (afterReply c (bare status) s) := by
  rw [exec_takes hc hw h, ht, refuse_handOff]

/-- Settles O11: the payload is the five items. -/
theorem identifyReturnsTheFiveItems : Obligations.IdentifyReturnsTheFiveItems := fun _ h =>
  exec_reads (payload := fun _ => identifyPayload) rfl rfl (fun _ => rfl) h

/-- Settles O12: the payload in the codes of R186, the two masks bit by bit. -/
theorem getStatusReturnsTheSnapshot : Obligations.GetStatusReturnsTheSnapshot := by
  intro s h
  refine ⟨BitVec.setWidth 16 s.events, BitVec.ofNat 16 (pendingMask s.zones), ?_⟩
  intro position
  have hposition (e : StatusEvent) : position e = e.position := by cases e <;> rfl
  refine ⟨fun e => ?_, fun k => getLsbD_setWidth_above s.events, fun i => ?_, ?_⟩
  · rw [hposition, getLsbD_setWidth_position]
  · rw [getLsbD_pendingMask, zonePending_iff]
  · rw [exec_reads (payload := statusPayload) rfl rfl (fun _ => rfl) h, statusPayload,
      eventBytes_eq, wordBytes_eq (pendingMask s.zones)]
    rfl

/-- Settles O27: the payload of each form of the slot. -/
theorem measureResultReturnsTheSlot : Obligations.MeasureResultReturnsTheSlot := by
  intro s h
  rw [exec_reads (payload := fun t => slotPayload t.slot) rfl rfl (fun _ => rfl) h]
  cases s.slot <;> rfl

/-- The bits of a GET ZONE record's flag byte (R187). -/
theorem zoneFlags_eq (pending dropped : Bool) :
    flagByte pending ||| flagByte dropped <<< 1 =
      BitVec.ofNat 8 ((if pending then 1 else 0) + (if dropped then 2 else 0)) := by
  cases pending <;> cases dropped <;> rfl

theorem zonePayload_some (i : Fin 16) (z : Zone) :
    zonePayload i (some z) =
      [byteOf i.val, 1#8, z.kind.code, byteOf z.moveThreshold, byteOf (z.current.getD 0),
        BitVec.ofNat 8 ((if z.pending then 1 else 0) + (if z.dropped then 2 else 0)),
        byteOf z.members.length] ++ z.members.map fun m => byteOf m.val := by
  rw [zonePayload, zoneFlags_eq]

/-- Settles O18: an index that names a record reads it whole, any other is out of range. -/
theorem channelAndZoneRecordsAreReadWhole : Obligations.ChannelAndZoneRecordsAreReadWhole := by
  refine ⟨fun s i h => ?_, fun s index h hi => ?_, fun s i h => ?_, fun s index h hi => ?_⟩
  · intro c d delta
    have ht (t : State) : takeGetChannel (BitVec.ofNat 8 i.val) t =
        answerOk (channelPayload i (Table.read t.channels i)) t := by
      simp only [takeGetChannel, channelOf_ofNat]
    rw [exec_reads (c := .getChannel _) (payload := fun t => channelPayload i (Table.read t.channels i))
      (congrArg some (funext ht)) rfl (fun _ => rfl) h, channelPayload, signedBytes_eq]
    rfl
  · exact exec_refused rfl rfl h (by simp only [takeGetChannel, channelOf_none hi])
  · have ht (t : State) : takeGetZone (BitVec.ofNat 8 i.val) t =
        answerOk (zonePayload i (Table.read t.zones i)) t := by
      simp only [takeGetZone, zoneOf_ofNat]
    rw [exec_reads (c := .getZone _) (payload := fun t => zonePayload i (Table.read t.zones i))
      (congrArg some (funext ht)) rfl (fun _ => rfl) h]
    cases hz : Table.read s.zones i with
    | none => rfl
    | some z =>
      rw [zonePayload_some]
      rfl
  · exact exec_refused rfl rfl h (by simp only [takeGetZone, zoneOf_none hi])

end Sys2Proof.Machine
end

section
/-! PROOFS. Requests that write the status, the settings and the records (R7 to R9, R32, R34, R48 to
R50, R101, R178). -/

namespace Sys2Proof.Machine

/-- What a request leaves that its block answers with `r` after it has made `u` of the state. -/
theorem exec_writes {c : Instr} {take : State → State} {r : Reply} {s : State} (u : State)
    (hc : taking c = some take) (hw : WellFormed c = true) (h : Takes c s)
    (ht : ∀ b, take { s with bus := b } = answer r { u with bus := b })
    (hport : u.port = s.port) (hbus : u.bus = s.bus) :
    exec c s = .next (afterReply c r u) := by
  rw [exec_takes hc hw h, handOff_eq, ht, afterReply, hport, hbus, ← hport]
  rfl

theorem position_eq : (fun e : StatusEvent => (match e with
    | .resetDone => 0 | .woken => 1 | .channelFault => 2 | .rebaselined => 3
    | .referenceRecaptured => 4 | .referenceFault => 5 | .zoneDropped => 6 | .liftExpired => 7
    | .holdTimeout => 8 | .roundOverrun => 9 | .measureDone => 10 : Nat)) =
      StatusEvent.position := by
  funext e
  cases e <;> rfl

/-! ### Status and settings (R101, R177, R178) -/

/-- A mask of two bytes names the events at their places (R186). -/
theorem has_setWidth (mask : BitVec 16) (e : StatusEvent) :
    EventSet.has (mask.setWidth 11) e = mask.getLsbD e.position := by
  simp [EventSet.has, position_lt e]

theorem has_compl (a : EventSet) (e : StatusEvent) : EventSet.has (~~~a) e = !a.has e := by
  simp [EventSet.has, position_lt e]

/-- Settles O13: the events named leave the set, and ATTN is judged on what remains. -/
theorem clearStatusRemovesTheNamedEvents : Obligations.ClearStatusRemovesTheNamedEvents := by
  intro s mask h
  refine ⟨s.events &&& ~~~(mask.setWidth 11), BitVec.setWidth 16 (s.events &&& ~~~(mask.setWidth 11)),
    attnWanted { s with events := s.events &&& ~~~(mask.setWidth 11) }, ?_⟩
  intro position
  have hp : position = StatusEvent.position := position_eq
  rw [hp]
  refine ⟨fun e => ?_, fun e => getLsbD_setWidth_position _ e, fun k => getLsbD_setWidth_above _,
    attnWanted_iff _, ?_⟩
  · rw [has_and, has_compl, has_setWidth]
  · refine exec_writes _ rfl rfl h (fun b => ?_) rfl rfl
    rw [takeClearStatus, judgeAttn_running (by exact h.1), eventBytes_eq]
    rfl

/-- Settles O14: the record is read in its layout, and written whole where the validation of R178
passes. -/
theorem settingsAreReadAndWrittenWhole : Obligations.SettingsAreReadAndWrittenWhole := by
  unfold Obligations.SettingsAreReadAndWrittenWhole
  intro position
  have hp : position = StatusEvent.position := position_eq
  rw [hp]
  refine ⟨fun s h => ?_, fun s r h => ?_⟩
  · refine ⟨BitVec.setWidth 16 s.settings.attentionMask,
      fun e => getLsbD_setWidth_position _ e, fun k => getLsbD_setWidth_above _, ?_⟩
    rw [exec_reads (payload := fun t => settingsPayload t.settings) rfl rfl (fun _ => rfl) h,
      settingsPayload, eventBytes_eq]
    rfl
  · refine ⟨r.attentionMask.setWidth 11, attnWanted { s with settings := settingsOf r },
      fun e => has_setWidth _ e, attnWanted_iff _, fun hg hd => ?_, fun hn => ?_⟩
    · have hv : settingsValid r = true := (settingsValid_iff r).mpr ⟨hg, hd⟩
      refine exec_writes _ rfl rfl h (fun b => ?_) rfl rfl
      rw [takeSetSettings, if_pos hv, judgeAttn_running (by exact h.1)]
      rfl
    · have hv : settingsValid r ≠ true := fun hv => hn ((settingsValid_iff r).mp hv)
      exact exec_refused rfl rfl h (if_neg hv)

/-! ### Channels (R5 to R9, R32, R34) -/

/-- What putting a channel into calibration writes (R33). -/
theorem startCalibration_eq (d : ChannelDynamics) :
    startCalibration d =
      { d with
        state := .calibrating, accumulator := 0, samplesTaken := 0, debounce := 0, onTime := 0,
        driftCount := 0, invertedCount := 0, outOfRange := 0, faultCause := .none,
        mark := if (d.state = .touched ∨ d.state = .releasing) ∧ d.mark = .none then
          .recalibrated else d.mark } := by
  rw [startCalibration, markOnLeaving_recalibrated]

/-- A byte is 01h exactly when it carries 1. -/
theorem byte_eq_one (b : Byte) : b = 1#8 ↔ b.toNat = 1 := by
  rw [← BitVec.toNat_inj]
  rfl

/-- The record that a SET CHANNEL in range leaves (R7, R9). -/
theorem reconfigure_eq (f : ChannelOperands) (c : Channel) :
    reconfigure f c =
      { config :=
          { role := c.config.role, level := f.level.toNat, touchThreshold := f.touchThreshold.toNat,
            releaseThreshold := f.releaseThreshold.toNat,
            referenceWeight := f.referenceWeight.toNat, watch := decide (f.watchFlag.toNat = 1),
            debounceIn := f.debounceIn.toNat, debounceOut := f.debounceOut.toNat }
        dyn :=
          if c.config.role = .sense ∧ c.config.level ≠ f.level.toNat then startCalibration c.dyn
          else c.dyn } := by
  simp only [reconfigure, configOf, byte_eq_one]

theorem takeSetChannel_range {index : Byte} {f : ChannelOperands}
    (h : channelOf index = none ∨ channelFieldsValid f = false) (s : State) :
    takeSetChannel index f s = refuse .range s := by
  unfold takeSetChannel
  split
  · simp_all
  · rfl
  · rfl

/-- Settles O19: the fields in range are written together, any other gets RANGE. -/
theorem setChannelWritesAndRecalibrates : Obligations.SetChannelWritesAndRecalibrates := by
  refine ⟨?_, fun s index f h hbad => ?_⟩
  · intro s i f h h1 h2 h3 h4 h5 h6 h7 h8 h9 h10 c d mark config dyn
    have hv : channelFieldsValid f = true := by
      simp only [channelFieldsValid, Bool.and_eq_true, decide_eq_true_eq]
      omega
    have hrec : reconfigure f (Table.read s.channels i) = { config := config, dyn := dyn } := by
      rw [reconfigure_eq, startCalibration_eq]
    refine exec_writes _ rfl rfl h (fun b => ?_) rfl rfl
    simp only [takeSetChannel, channelOf_ofNat, hv, hrec]
    rfl
  · refine exec_refused rfl rfl h (takeSetChannel_range ?_ _)
    obtain hi | hf := hbad
    · exact .inl (channelOf_none hi)
    · refine .inr ?_
      simp only [← Bool.not_eq_true, channelFieldsValid, Bool.and_eq_true, decide_eq_true_eq]
      omega

theorem takeSetRole_range {index code : Byte} (h : channelOf index = none ∨ roleOf code = none)
    (s : State) : takeSetRole index code s = refuse .range s := by
  unfold takeSetRole
  split
  · simp_all
  · rfl
  · rfl

/-- SET ROLE with operands that name a channel and a role (R5). -/
theorem takeSetRole_eq (i : Fin 32) (role : Role) (s : State) :
    takeSetRole (BitVec.ofNat 8 i.val) role.code s =
      if isMember i s ∧ role ≠ .sense then refuse .inUse s
      else answerOk [] (applyRole i role s) := by
  simp only [takeSetRole, channelOf_ofNat, roleOf_code]

/-- What a role lost leaves of the conversion in flight (R6). -/
theorem loseRole_eq (i : Fin 32) (role : Role) (cv : Conversion) :
    loseRole i role cv =
      { cv with
        roleLost := cv.roleLost ||
          decide (cv.claimant = .scan ∧ cv.target = .channel i ∧ role ≠ .sense) } := by
  by_cases h : cv.claimant = .scan ∧ cv.target = .channel i ∧ role ≠ .sense
  · rw [loseRole, if_pos h, decide_eq_true h, Bool.or_true]
  · rw [loseRole, if_neg h, decide_eq_false h, Bool.or_false]

/-- Settles O20: the operands that name no channel or role, the member that may not leave SENSE, and the
effect of R5 on the record, the conversion in flight and the pin. -/
theorem setRoleFollowsTheTable : Obligations.SetRoleFollowsTheTable := by
  refine ⟨fun s index role h hbad => ?_, fun s i role => ?_⟩
  · exact exec_refused rfl rfl h (takeSetRole_range (hbad.imp channelOf_none roleOf_none) _)
  · intro c h cleared member
    have hc : taking c = some (takeSetRole (BitVec.ofNat 8 i.val) role.code) := rfl
    have hm (b : BusView) : isMember i { s with bus := b } = true ↔ member := isMember_iff i s
    refine ⟨fun hin hr => ?_, fun hn => ?_⟩
    · refine exec_refused hc rfl h ?_
      rw [takeSetRole_eq, handOff_eq, if_pos ⟨(hm _).mpr hin, hr⟩]
    · refine ⟨afterReply c (bare .ok) (applyRole i role s), ?_, rfl, ?_, ?_, ?_⟩
      · refine exec_writes _ hc rfl h (fun b => ?_) rfl rfl
        rw [takeSetRole_eq, if_neg fun h' => hn ⟨(hm b).mp h'.1, h'.2⟩]
        rfl
      · exact fun j hj => Table.read_write_other _ (Ne.symm hj) _
      · have hnew : Table.read (afterReply c (bare .ok) (applyRole i role s)).channels i =
            changeRole role (Table.read s.channels i) := Table.read_write_same _ _ _
        intro old new
        obtain ⟨h1, h2, h3⟩ | ⟨h1, h2⟩ := changeRole_cases role old
        · rw [if_pos ⟨h1, h2⟩]
          exact hnew.trans h3
        · rw [if_neg h1, show new = _ from hnew.trans h2]
          exact ⟨rfl, rfl⟩
      · cases hcv : s.converter with
        | none =>
          have hd : (afterReply c (bare .ok) (applyRole i role s)).drive =
              Table.write s.drive i (idleDriveOf role) := by
            simp only [afterReply, afterAnswer, applyRole, pinsAfterRole, hcv]
          refine ⟨by simp [afterReply, afterAnswer, applyRole, hcv], ?_, fun j hj => ?_⟩
          · rw [hd, Table.read_write_same]
            cases role <;> rfl
          · rw [hd, Table.read_write_other _ (Ne.symm hj)]
        | some cv =>
          refine ⟨by simp only [afterReply, afterAnswer, applyRole, pinsAfterRole, hcv], ?_⟩
          simp only [afterReply, afterAnswer, applyRole, hcv, Option.map_some, loseRole_eq]

theorem calibrates_eq (mask : BitVec 32) (i : Fin 32) (c : Channel) :
    calibrates mask i c = (mask.getLsbD i.val && decide (c.config.role = .sense)) := by
  rw [calibrates, beq_eq_decide]

/-- Settles O21: CALIBRATE maps the named SENSE channels and counts them. -/
theorem calibrateRestartsTheNamedChannels : Obligations.CalibrateRestartsTheNamedChannels := by
  refine ⟨fun s mask flag h hf => exec_refused rfl rfl h (if_pos hf), fun s mask flag h hf => ?_⟩
  refine ⟨Table.mapAt (calibrateChannel mask) s.channels, fun i => ?_, ?_⟩
  · rw [Table.read_mapAt, calibrateChannel, calibrates_eq, startCalibration_eq]
    simp only [Bool.and_eq_true, decide_eq_true_eq]
  · refine exec_writes _ rfl rfl h (fun b => ?_) rfl rfl
    have hr : calibrateReference (flag = 1#8) s.reference =
        if flag.toNat = 1 then { s.reference with state := .unset, noiseCount := 0 }
        else s.reference := by
      simp only [calibrateReference, byte_eq_one, decide_eq_true_eq]
    simp only [takeCalibrate, if_neg (Nat.not_lt.mpr hf), Table.countAt,
      List.countP_eq_length_filter, calibrates_eq, hr]
    rfl

end Sys2Proof.Machine
end

section
/-! PROOFS. Requests to the zones and to the contacts, and measurements (R48 to R50, R90 to R99, R122,
R188). -/

namespace Sys2Proof.Machine

/-! ### DEFINE ZONE (R48, R49) -/

theorem channelOf_eq_some {b : Byte} {i : Fin 32} :
    channelOf b = some i ↔ b = BitVec.ofNat 8 i.val := by
  constructor
  · intro h
    unfold channelOf at h
    split at h
    · obtain rfl := Option.some.inj h
      simp
    · cases h
  · rintro rfl
    exact channelOf_ofNat i

/-- Member bytes that name channels are the bytes of those channels. -/
theorem membersOf_eq_some {bytes : List Byte} {ms : List (Fin 32)} (h : membersOf bytes = some ms) :
    bytes = ms.map fun m => BitVec.ofNat 8 m.val := by
  induction bytes generalizing ms with
  | nil =>
    obtain rfl := Option.some.inj h
    rfl
  | cons b bytes ih =>
    unfold membersOf at h
    split at h
    · rename_i m rest hm hrest
      obtain rfl := Option.some.inj h
      rw [channelOf_eq_some.mp hm, ih hrest, List.map_cons]
    all_goals cases h

theorem byte_injective : Function.Injective fun m : Fin 32 => BitVec.ofNat 8 m.val := by
  intro a b h
  have := congrArg BitVec.toNat h
  simp only [BitVec.toNat_ofNat] at this
  omega

theorem nodup_bytes {ms : List (Fin 32)} :
    (ms.map fun m => BitVec.ofNat 8 m.val).Nodup ↔ ms.Nodup :=
  List.nodup_map_iff byte_injective

/-- The code of a kind that a byte names. -/
theorem toNat_of_kindOf {b : Byte} {k : ZoneKind} (h : kindOf b = some k) :
    b.toNat = match k with | .button => 1 | .slider => 2 | .wheel => 3 := by
  unfold kindOf at h
  split at h <;> cases h <;> assumption

theorem zoneOf_eq_some {b : Byte} {i : Fin 16} (h : zoneOf b = some i) : b.toNat ≤ 15 := by
  by_contra hn
  rw [zoneOf_none (by omega)] at h
  cases h

/-- The counts a kind allows, as bounds (R44). -/
theorem memberCountAllowed_iff (kind : ZoneKind) (n : Nat) :
    memberCountAllowed kind n = true ↔
      (match kind with | .button => 1 | .slider => 2 | .wheel => 3) ≤ n
        ∧ n ≤ match kind with | .button => 4 | .slider => 8 | .wheel => 8 := by
  cases kind <;> simp [memberCountAllowed]

/-- Operands that pass row 1 of R48 meet none of its conditions. -/
theorem zoneOperands_spec {index kind threshold : Byte} {members : List Byte} {o : ZoneOperands}
    (h : zoneOperands index kind threshold members = some o) :
    index.toNat ≤ 15 ∧ kindOf kind = some o.kind
      ∧ memberCountAllowed o.kind members.length = true ∧ (∀ m ∈ members, m.toNat ≤ 31)
      ∧ members.Nodup := by
  unfold zoneOperands at h
  split at h
  · rename_i i k ms hi hk hms
    split at h
    · rename_i hv
      obtain rfl := Option.some.inj h
      obtain ⟨hcount, hnodup⟩ : memberCountAllowed k ms.length = true ∧ ms.Nodup := by
        simpa using hv
      obtain rfl := membersOf_eq_some hms
      refine ⟨zoneOf_eq_some hi, hk, by simpa using hcount, ?_, nodup_bytes.mpr hnodup⟩
      simp only [List.mem_map, forall_exists_index, and_imp, forall_apply_eq_imp_iff₂,
        BitVec.toNat_ofNat]
      omega
    · cases h
  · cases h

/-- A condition of row 1 of R48 that holds gives RANGE. -/
theorem takeDefineZone_range {index kind threshold : Byte} {members : List Byte}
    (h : zoneOperands index kind threshold members = none) (s : State) :
    takeDefineZone index kind threshold members s = refuse .range s := by
  simp only [takeDefineZone, h]

/-- The rows 2 to 4 of R48 in the words of the statement. -/
theorem defineRefusal_eq (o : ZoneOperands) (s : State) :
    (Table.read s.zones o.index ≠ none → defineRefusal o s = some .inUse)
      ∧ (Table.read s.zones o.index = none →
        ((∃ m ∈ o.members, (Table.read s.channels m).config.role ≠ .sense) →
          defineRefusal o s = some .role)
        ∧ ((¬ ∃ m ∈ o.members, (Table.read s.channels m).config.role ≠ .sense) →
          ((∃ m ∈ o.members, ∃ k z, Table.read s.zones k = some z ∧ m ∈ z.members) →
            defineRefusal o s = some .inUse)
          ∧ ((¬ ∃ m ∈ o.members, ∃ k z, Table.read s.zones k = some z ∧ m ∈ z.members) →
            defineRefusal o s = none))) := by
  have hrole : (o.members.any fun m => (Table.read s.channels m).config.role != .sense) = true ↔
      ∃ m ∈ o.members, (Table.read s.channels m).config.role ≠ .sense := by simp
  have hmember : (o.members.any fun m => isMember m s) = true ↔
      ∃ m ∈ o.members, ∃ k z, Table.read s.zones k = some z ∧ m ∈ z.members := by
    simp only [List.any_eq_true, isMember_iff]
  rw [← hrole, ← hmember, ← Option.isSome_iff_ne_none, ← Option.not_isSome_iff_eq_none]
  unfold defineRefusal
  refine ⟨fun h => if_pos h, fun h => ⟨fun h' => ?_, fun h' => ⟨fun h'' => ?_, fun h'' => ?_⟩⟩⟩
  · rw [if_neg h, if_pos h']
  · rw [if_neg h, if_neg h', if_pos h'']
  · rw [if_neg h, if_neg h', if_neg h'']

/-- Settles O22: row 1 of R48 on the operands, rows 2 to 4 on the tables, then the zone is made. -/
theorem defineZoneChecksInOrder : Obligations.DefineZoneChecksInOrder := by
  refine ⟨?_, fun s i kind threshold members => ?_⟩
  · intro s index kind threshold members h h1 h8 hbad
    have hw : WellFormed (.defineZone index kind threshold members) = true := by
      simp [WellFormed, h1, h8]
    refine exec_refused rfl hw h (takeDefineZone_range ?_ _)
    by_contra hn
    obtain ⟨o, ho⟩ := Option.ne_none_iff_exists'.mp hn
    obtain ⟨hi, hk, hc, hm, hd⟩ := zoneOperands_spec ho
    generalize o.kind = k at hk hc
    have hcode := toNat_of_kindOf hk
    rw [memberCountAllowed_iff] at hc
    rcases hbad with hx | hx | hx | hx | hx | hx | ⟨m, hm', hx⟩ | hx
    case inr.inr.inr.inr.inr.inr.inr => exact hx hd
    case inr.inr.inr.inr.inr.inr.inl => exact absurd (hm m hm') (by omega)
    all_goals cases k <;> simp only at hcode hc <;> omega
  · intro c most least h hleast hmost hnodup
    have hallowed : memberCountAllowed kind members.length = true :=
      (memberCountAllowed_iff _ _).mpr ⟨hleast, hmost⟩
    have hw : WellFormed c = true := by
      simp only [WellFormed, c, List.length_map, Bool.and_eq_true, decide_eq_true_eq]
      cases kind <;> simp only [most, least] at hleast hmost <;> omega
    let o : ZoneOperands :=
      { index := i, kind := kind, moveThreshold := threshold.toNat, members := members }
    have ho : zoneOperands (BitVec.ofNat 8 i.val) kind.code threshold
        (members.map fun m => BitVec.ofNat 8 m.val) = some o := by
      simp only [zoneOperands, zoneOf_ofNat, kindOf_code, membersOf_map, hallowed, hnodup]
      rfl
    have hc : taking c = some (takeDefineZone (BitVec.ofNat 8 i.val) kind.code threshold
        (members.map fun m => BitVec.ofNat 8 m.val)) := rfl
    have hrefused {status : Status} (hr : ∀ b, defineRefusal o { s with bus := b } = some status) :
        exec c s = .next (afterReply c (bare status) s) := by
      refine exec_refused hc hw h ?_
      rw [handOff_eq]
      simp only [takeDefineZone, ho, hr]
    have hrows (b : BusView) := defineRefusal_eq o { s with bus := b }
    split_ifs with hz hrole hmember
    · exact hrefused fun b => (hrows b).1 hz
    · exact hrefused fun b => ((hrows b).2 (not_not.mp hz)).1 hrole
    · exact hrefused fun b => (((hrows b).2 (not_not.mp hz)).2 hrole).1 hmember
    · refine exec_writes _ hc hw h (fun b => ?_) rfl rfl
      have hr := (((hrows b).2 (not_not.mp hz)).2 hrole).2 hmember
      simp only [takeDefineZone, ho, hr]
      rfl

/-! ### DELETE ZONE (R50) -/

/-- The contacts after the deletion of a zone, record by record. -/
theorem contactsAfterDelete_eq (z : Zone) (cs : List Contact) :
    contactsAfterDelete z cs = cs.map fun x =>
      if z.current = some x.id then
        { x with
          state := .lifted .zoneDeleted 0
          changes := { x.changes with lifted := true }
          revision := (x.revision + 1) % 256 }
      else x := by
  unfold contactsAfterDelete
  split
  · rename_i id h
    simp only [updateContact, h, Option.some.injEq, eq_comm (a := id)]
    rfl
  · rename_i h
    simp [h]

/-- Settles O23: the refusals, then the zone and its current contact. -/
theorem deleteZoneLiftsItsContact : Obligations.DeleteZoneLiftsItsContact := by
  refine ⟨fun s index h hi => ?_, fun s i => ?_⟩
  · exact exec_refused rfl rfl h (by simp only [takeDeleteZone, zoneOf_none hi])
  · intro c h
    have hc : taking c = some (takeDeleteZone (BitVec.ofNat 8 i.val)) := rfl
    split
    · rename_i hz
      refine exec_refused hc rfl h ?_
      rw [handOff_eq]
      simp only [takeDeleteZone, zoneOf_ofNat, hz]
    · rename_i z hz
      intro lifted s1
      refine ⟨attnWanted s1, attnWanted_iff _, exec_writes _ hc rfl h (fun b => ?_) rfl rfl⟩
      have hcs : contactsAfterDelete z s.contacts = s.contacts.map lifted :=
        contactsAfterDelete_eq z _
      simp only [takeDeleteZone, zoneOf_ofNat, hz, hcs]
      rw [judgeAttn_running (by exact h.1)]
      rfl

/-! ### READ CONTACTS and READ CHANGES (R90 to R92, R188) -/

theorem mem_changedContacts {cs : List Contact} {c : Contact} :
    c ∈ changedContacts cs ↔ c ∈ cs ∧
      (c.changes.appeared = true ∨ c.changes.moved = true ∨ c.changes.lifted = true) := by
  rw [changedContacts, List.mem_filter, Bool.not_eq_true', isEmpty_eq_false]

/-- The third byte of a contact entry (R188). -/
theorem stateByte_eq (st : ContactState) (b : Bool) :
    st.code ||| flagByte b <<< 7 =
      BitVec.ofNat 8 ((match st with | .down => 1 | .held => 2 | .lifted _ _ => 3)
        + if b then 128 else 0) := by
  cases st <;> cases b <;> simp only [ContactState.code] <;> rfl

/-- The fourth byte of a contact entry (R188). -/
theorem changeByte_eq (c : ChangeSet) :
    c.code = BitVec.ofNat 8 ((if c.appeared then 1 else 0) + (if c.moved then 2 else 0)
      + if c.lifted then 4 else 0) := by
  obtain ⟨_ | _, _ | _, _ | _⟩ := c <;> rfl

theorem length_contactEntry (c : Contact) :
    (contactEntry c).length =
      9 + (if c.travel.isSome then 2 else 0) + if c.state.isLifted then 2 else 0 := by
  cases ht : c.travel <;> cases hs : c.state <;>
    simp [contactEntry, wordBytes, travelBytes, liftBytes, ht, hs, ContactState.isLifted]

/-- An entry has at most 13 bytes, so ten of them and the count have at most 131 (R188). -/
theorem length_flatMap_contactEntry (cs : List Contact) :
    (cs.flatMap contactEntry).length ≤ 13 * cs.length := by
  induction cs with
  | nil => simp
  | cons c cs ih =>
    have hc : (contactEntry c).length ≤ 13 := by
      rw [length_contactEntry]
      split <;> split <;> omega
    simp only [List.flatMap_cons, List.length_append, List.length_cons]
    omega

/-- Settles O24: the two reads, the bytes of an entry, and the length of the whole. -/
theorem contactsAreReadInListOrder : Obligations.ContactsAreReadInListOrder := by
  refine ⟨fun s h => ?_, fun s h => ?_, fun c => ?_, length_contactEntry, fun cs h => ?_⟩
  · exact exec_reads (payload := fun t => contactsPayload t.contacts) rfl rfl (fun _ => rfl) h
  · exact ⟨changedContacts s.contacts, List.filter_sublist, fun c => mem_changedContacts,
      exec_reads (payload := fun t => contactsPayload (changedContacts t.contacts)) rfl rfl
        (fun _ => rfl) h⟩
  · rw [contactEntry, stateByte_eq, changeByte_eq]
    cases c.travel <;> cases c.state <;> rfl
  · have := length_flatMap_contactEntry cs
    simp only [contactsPayload, List.length_cons]
    omega

/-! ### ACK CONTACTS (R93 to R99) -/

/-- The table after a list of pairs is what the pairs leave one after the other (R93). -/
theorem ackList_table (pairs : List (Byte × Byte)) (cs : List Contact) :
    (ackList pairs cs).2 = pairs.foldl (fun cs p => ackPair p.1.toNat p.2.toNat cs) cs := by
  induction pairs generalizing cs with
  | nil => rfl
  | cons p ps ih => exact ih _

/-- The outcome at a place is that of its pair against the table the pairs before it left (R99). -/
theorem ackList_outcome (pairs : List (Byte × Byte)) (cs : List Contact) {k : Nat}
    {p : Byte × Byte} (h : pairs[k]? = some p) :
    (ackList pairs cs).1[k]? = some (ackOutcome p.1.toNat p.2.toNat
      ((pairs.take k).foldl (fun cs p => ackPair p.1.toNat p.2.toNat cs) cs)) := by
  induction pairs generalizing cs k with
  | nil => simp at h
  | cons q ps ih =>
    cases k with
    | zero =>
      obtain rfl : q = p := by simpa using h
      rfl
    | succ k => exact ih _ (by simpa using h)

section
variable {cs : List Contact} {c : Contact} {id revision : Nat}
  (hn : (cs.map fun c => c.id).Nodup) (hc : c ∈ cs) (hid : c.id = id)
include hn hc hid

theorem findContact_eq : findContact id cs = some c := hid ▸ findContact_of_mem hn hc

theorem id_eq_iff {x : Contact} (hx : x ∈ cs) : x.id = id ↔ x = c :=
  ⟨fun h => contact_eq_of_id hn hx hc (h.trans hid.symm), fun h => h ▸ hid⟩

/-- A pair that matches a LIFTED record retires it (R96). -/
theorem ackPair_retires (hr : c.revision = revision) (hl : c.state.isLifted = true) :
    ackPair id revision cs = cs.filter fun x => decide (x ≠ c) := by
  simp only [ackPair, findContact_eq hn hc hid, hr, hl, if_true]
  refine List.filter_congr fun x hx => ?_
  rw [Bool.eq_iff_iff, bne_iff_ne, decide_eq_true_iff]
  exact (id_eq_iff hn hc hid hx).not

/-- A pair that matches a DOWN or HELD record leaves it HELD with an empty change set (R96). -/
theorem ackPair_holds (hr : c.revision = revision) (hl : c.state.isLifted = false) :
    ackPair id revision cs = cs.map fun x =>
      if x = c then
        { c with
          state := .held
          changes := { appeared := false, moved := false, lifted := false } }
      else x := by
  simp only [ackPair, findContact_eq hn hc hid, hr, hl, if_true, Bool.false_eq_true, if_false,
    updateContact]
  refine List.map_congr_left fun x hx => ?_
  simp only [id_eq_iff hn hc hid hx]
  split
  · rename_i h
    subst h
    cases hs : x.state with
    | lifted cause age => simp [hs, ContactState.isLifted] at hl
    | _ => simp [acknowledged, hs, hr, ChangeSet.empty]
  · rfl

end

/-- Settles O25: the list of pairs by recursion, and one pair by the record that carries its id. -/
theorem ackContactsProcessesPairsInOrder : Obligations.AckContactsProcessesPairsInOrder := by
  refine ⟨?_, fun cs id revision hn => ⟨fun hnone => ?_, fun c hc hid => ⟨fun hr => ?_, fun hr => ?_⟩⟩⟩
  · intro s pairs h h1 h10 after
    have hw : WellFormed (.ackContacts pairs) = true := by simp [WellFormed, h1, h10]
    have hafter : (ackList pairs s.contacts).2 = after pairs.length := by
      rw [ackList_table]
      simp [after]
    refine ⟨(ackList pairs s.contacts).1, length_ackList _ _,
      fun k p hk => ackList_outcome pairs _ hk,
      attnWanted { s with contacts := after pairs.length }, attnWanted_iff _, ?_⟩
    refine exec_writes _ rfl hw h (fun b => ?_) rfl rfl
    simp only [takeAckContacts, hafter, ackPayload, length_ackList]
    rw [judgeAttn_running (by exact h.1)]
    rfl
  · have hf := findContact_none.mpr hnone
    simp only [ackOutcome, ackPair, hf, and_self]
  · simp only [ackOutcome, ackPair, findContact_eq hn hc hid, hr, if_false, and_self]
  · refine ⟨?_, ackPair_retires hn hc hid hr, ackPair_holds hn hc hid hr⟩
    simp only [ackOutcome, findContact_eq hn hc hid, hr, if_true]

/-! ### MEASURE (R122 to R124) -/

theorem targetOf_none {b : Byte} (h : 32 < b.toNat) : targetOf b = none := by
  have hne : b ≠ 32#8 := by
    rintro rfl
    simp at h
  simp [targetOf, hne, channelOf_none (show 31 < b.toNat by omega)]

theorem targetOf_isSome {b : Byte} (h : b.toNat ≤ 32) : ∃ t, targetOf b = some t := by
  unfold targetOf
  split
  · exact ⟨_, rfl⟩
  · rename_i hne
    have : b.toNat ≠ 32 := fun h' => hne (BitVec.eq_of_toNat_eq h')
    exact ⟨_, by rw [channelOf, dif_pos (by omega)]; rfl⟩

theorem takeMeasure_range {target level : Byte} (h : targetOf target = none ∨ 7 < level.toNat)
    (s : State) : takeMeasure target level s = refuse .range s := by
  unfold takeMeasure
  split
  · rename_i ht hl
    obtain h | h := h
    · simp [h] at ht
    · simp at hl
      omega
  · rfl
  · rfl

/-- MEASURE with operands in range (R122). -/
theorem takeMeasure_eq {target level : Byte} {t : Target} (ht : targetOf target = some t)
    (hl : level.toNat ≤ 7) (s : State) :
    takeMeasure target level s =
      if s.slot.isOutstanding then refuse .busy s
      else answerOk [] (grant (queueMeasurement t level.toNat s)) := by
  simp only [takeMeasure, ht, hl, decide_true]

theorem isOutstanding_iff (slot : Slot) :
    slot.isOutstanding = true ↔ ∃ t l, slot = .queued t l ∨ slot = .converting t l := by
  cases slot <;> simp [Slot.isOutstanding]

/-- Settles O26: the refusals, then the queue and the arbiter. -/
theorem measureQueuesOrConverts : Obligations.MeasureQueuesOrConverts := by
  refine ⟨fun s target level h hbad => ?_, fun s target level h ht hl hout => ?_,
    fun s target level => ?_⟩
  · exact exec_refused rfl rfl h (takeMeasure_range (hbad.imp_left targetOf_none) _)
  · obtain ⟨t, ht⟩ := targetOf_isSome ht
    refine exec_refused rfl rfl h ?_
    rw [handOff_eq, takeMeasure_eq ht hl]
    exact if_pos ((isOutstanding_iff _).mpr hout)
  · intro code h hl hnone
    have ht : targetOf code = some target := by
      rw [← targetOf_code target]
      cases target <;> rfl
    have hout : ¬ s.slot.isOutstanding = true := by
      rw [isOutstanding_iff]
      rintro ⟨t, l, hq | hq⟩
      · exact (hnone t l).1 hq
      · exact (hnone t l).2 hq
    have htake (b : BusView) : takeMeasure code level { s with bus := b } =
        answerOk [] (grant (queueMeasurement target level.toNat { s with bus := b })) := by
      rw [takeMeasure_eq ht hl]
      exact if_neg hout
    by_cases hidle : s.converter = none ∧ s.hold = false
    · rw [if_pos hidle]
      refine ⟨pinsFor target s, fun p => ?_, exec_writes _ rfl rfl h (fun b => ?_) rfl rfl⟩
      · have hpins := pinsFor_spec target s
        unfold PinsFor at hpins
        cases target <;> exact hpins p
      · rw [htake, queueMeasurement_eq, grant_host (by exact hidle.1) (by exact hidle.2) (by rfl)]
        simp only [hidle.2]
        rfl
    · rw [if_neg hidle]
      refine exec_writes _ rfl rfl h (fun b => ?_) rfl rfl
      have hblocked : s.converter ≠ none ∨ s.hold = true := by
        by_contra hn
        rw [not_or, not_not, Bool.not_eq_true] at hn
        exact hidle hn
      rw [htake, queueMeasurement_eq, grant_blocked (by exact hblocked)]
      rfl

end Sys2Proof.Machine
end

section
/-! PROOFS. Resets, HOLD, the timers and the changes of mode (R107, R118, R120, R124, R148, R153 to R158,
R160, R161, R180 to R183). -/

namespace Sys2Proof.Machine

/-! ### Resets (R107, R127, R164, R180 to R183) -/

/-- Settles O42: the blocks in their full-reset state, the reply in the buffer. -/
theorem resetFullResetsEveryBlock : Obligations.ResetFullResetsEveryBlock := by
  intro s h
  rw [exec_takes (c := .resetFull) rfl rfl h, handOff_eq]
  rfl

theorem read_scanReset_channels (s : State) (i : Fin 32) :
    Table.read (scanResetBlocks s).channels i = scanResetChannel (Table.read s.channels i) := by
  simp [scanResetBlocks]

theorem read_scanReset_zones (s : State) (i : Fin 16) :
    Table.read (scanResetBlocks s).zones i = (Table.read s.zones i).map scanResetZone := by
  simp [scanResetBlocks]

/-- The fields that the restart of the rounds does not write (R164). -/
theorem restartByMode_fields (s : State) :
    (restartByMode s).pending = s.pending ∧ (restartByMode s).rstnLow = s.rstnLow
      ∧ (restartByMode s).supplyFalls = s.supplyFalls ∧ (restartByMode s).bus = s.bus
      ∧ (restartByMode s).settings = s.settings ∧ (restartByMode s).channels = s.channels
      ∧ (restartByMode s).zones = s.zones ∧ (restartByMode s).contacts = s.contacts
      ∧ (restartByMode s).nextId = s.nextId ∧ (restartByMode s).events = s.events
      ∧ (restartByMode s).reference = s.reference ∧ (restartByMode s).slotTimer = s.slotTimer
      ∧ (restartByMode s).adselHigh = s.adselHigh ∧ (restartByMode s).hold = s.hold
      ∧ (restartByMode s).scan.mode = s.scan.mode
      ∧ (restartByMode s).scan.counter = s.scan.counter := by
  unfold restartByMode
  split <;> simp [startRound, startWatchTimer]

/-- What the blocks are left with before the rounds restart (R127). -/
theorem scanReset_idle (s : State) :
    (scanResetBlocks s).converter = none ∧ NoHostClaim (scanResetBlocks s)
      ∧ (scanResetBlocks s).scan.mode = s.scan.mode ∧ (scanResetBlocks s).hold = s.hold := by
  simp [scanResetBlocks, NoHostClaim]

/-- The REF claim of an ACTIVE round that starts is granted where no measurement waits (R118). -/
theorem grant_startRound {s : State} (hc : s.converter = none) (hh : s.hold = false)
    (hq : NoHostClaim s) :
    grant (startRound .active s) = grantScan .ref (startRound .active s) :=
  grant_scan hc hh hq rfl

section
variable {s : State}

theorem restart_paused (hm : s.scan.mode = .paused) :
    restartByMode (scanResetBlocks s) = scanResetBlocks s := by
  simp only [restartByMode, (scanReset_idle s).2.2.1, hm]

theorem restart_watch (hm : s.scan.mode = .watch) :
    restartByMode (scanResetBlocks s) = startWatchTimer (scanResetBlocks s) := by
  simp only [restartByMode, (scanReset_idle s).2.2.1, hm]

/-- Under HOLD the claim of the ACTIVE round that starts waits (R118). -/
theorem restart_active_waits (hm : s.scan.mode = .active) (hh : s.hold = true) :
    restartByMode (scanResetBlocks s) = startRound .active (scanResetBlocks s) := by
  obtain ⟨_, _, hmode, hhold⟩ := scanReset_idle s
  simp only [restartByMode, hmode, hm]
  exact grant_blocked (.inr (by rw [startRound_hold, hhold, hh]))

/-- With HOLD released REF is converted at once (R118). -/
theorem restart_active_granted (hm : s.scan.mode = .active) (hh : s.hold = false) :
    restartByMode (scanResetBlocks s) =
      grantScan .ref (startRound .active (scanResetBlocks s)) := by
  obtain ⟨hc, hq, hmode, hhold⟩ := scanReset_idle s
  simp only [restartByMode, hmode, hm]
  exact grant_startRound hc (hhold.trans hh) hq

/-- The pins stay at their drive between conversions, which is REF's too (R115). -/
theorem restart_drive (s : State) :
    (restartByMode (scanResetBlocks s)).drive = idlePins s.channels := by
  have hpins : idlePins (scanResetBlocks s).channels = idlePins s.channels :=
    idlePins_congr fun i => by rw [read_scanReset_channels]; rfl
  cases hm : s.scan.mode with
  | paused => rw [restart_paused hm]; rfl
  | watch => rw [restart_watch hm]; rfl
  | active =>
    cases hh : s.hold with
    | true => rw [restart_active_waits hm hh]; rfl
    | false =>
      rw [restart_active_granted hm hh, grantScan_drive]
      exact hpins

/-- The slot stays ABORTED (R128). -/
theorem restart_slot (s : State) : (restartByMode (scanResetBlocks s)).slot = .aborted := by
  cases hm : s.scan.mode with
  | paused => rw [restart_paused hm]; rfl
  | watch => rw [restart_watch hm]; rfl
  | active =>
    cases hh : s.hold with
    | true => rw [restart_active_waits hm hh]; rfl
    | false => rw [restart_active_granted hm hh]; rfl

/-- In ACTIVE a round starts at once, its claim granted or waiting (R164). -/
theorem restart_active (hm : s.scan.mode = .active) :
    (restartByMode (scanResetBlocks s)).scan.round =
        .running { kind := .active, phase := .reference, last := none }
      ∧ (restartByMode (scanResetBlocks s)).scan.roundTimer = .running s.settings.roundInterval
      ∧ (restartByMode (scanResetBlocks s)).scan.watchTimer = .stopped
      ∧ (if s.hold then (restartByMode (scanResetBlocks s)).converter = none
            ∧ (restartByMode (scanResetBlocks s)).scanClaim = some .ref
            ∧ (restartByMode (scanResetBlocks s)).scan.holdTimer = .running s.settings.holdLimit
          else (restartByMode (scanResetBlocks s)).converter = some (referenceConversion s)
            ∧ (restartByMode (scanResetBlocks s)).scanClaim = none
            ∧ (restartByMode (scanResetBlocks s)).scan.holdTimer = .stopped) := by
  cases hh : s.hold with
  | true =>
    rw [restart_active_waits hm hh]
    simp [startRound, scanResetBlocks, hh]
  | false =>
    rw [restart_active_granted hm hh, grantScan_eq]
    simp [startRound, scanResetBlocks, hh, scanConversion, referenceConversion]

end

/-- Settles O43: what a scan reset writes, and the restart of the rounds mode by mode. -/
theorem resetScanKeepsTheConfiguration : Obligations.ResetScanKeepsTheConfiguration := by
  intro s h cleared
  have he : exec .resetScan s = .next (takeResetScan (handOff .resetScan s)) :=
    exec_takes rfl rfl h
  rw [handOff_eq] at he
  generalize hb : (if s.port.executing = true then s.bus
    else BusView.written (requestFrameOf .resetScan).length) = b at he ⊢
  obtain ⟨f1, f2, f3, f4, f5, f6, f7, f8, f9, f10, f11, f12, f13, f14, f15, f16⟩ :=
    restartByMode_fields (scanResetBlocks { s with bus := b })
  refine ⟨_, he, f1, f2, f3, f4, f5, f15, f16, fun i => ?_, fun i => ?_, f8, f9, fun e => ?_, rfl,
    restart_slot _, f12, f11, rfl, rfl, rfl, f13, f14, ?_, ?_⟩
  · refine (congrArg (Table.read · i) f6).trans ((read_scanReset_channels _ i).trans ?_)
    rfl
  · exact (congrArg (Table.read · i) f7).trans (read_scanReset_zones _ i)
  · have hevents : (takeResetScan { s with bus := b }).events = .only .resetDone := f10
    simp [hevents]
  · exact restingPins_iff.mpr (restart_drive { s with bus := b })
  · have hlast : (takeResetScan { s with bus := b }).scan =
          (restartByMode (scanResetBlocks { s with bus := b })).scan
        ∧ (takeResetScan { s with bus := b }).converter =
          (restartByMode (scanResetBlocks { s with bus := b })).converter
        ∧ (takeResetScan { s with bus := b }).scanClaim =
          (restartByMode (scanResetBlocks { s with bus := b })).scanClaim := ⟨rfl, rfl, rfl⟩
    obtain ⟨h1, h2, h3⟩ := hlast
    rw [h1, h2, h3]
    split
    · rename_i hm
      rw [restart_paused (by exact hm)]
      exact ⟨rfl, rfl, rfl, rfl, rfl, rfl⟩
    · rename_i hm
      exact restart_active (s := { s with bus := b }) hm
    · rename_i hm
      rw [restart_watch (by exact hm)]
      exact ⟨rfl, rfl, rfl, rfl, rfl, rfl⟩

/-- RESET_DONE is present and enabled in the reset state (R106). -/
theorem attnWanted_reset : attnWanted State.reset = true :=
  (attnWanted_iff _).mpr (.inr ⟨.resetDone, rfl, rfl⟩)

/-- A completed power-on or pin reset leaves the reset state but for what no reset touches. -/
theorem completeFullReset_eq (cause : ResetCause) (level : Bool) (s : State) :
    completeFullReset cause level s =
      { State.reset with
        pending := s.pending, rstnLow := s.rstnLow, hold := s.hold, adselHigh := level,
        bus := s.bus, resetCause := cause, supplyFalls := s.supplyFalls } := by
  have ha := attnWanted_congr (s := { fullResetBlocks .none s with
      power := .running, adselHigh := level, resetCause := cause, port := .afterReset .noRequest })
    (t := State.reset) rfl rfl rfl
  rw [completeFullReset, judgeAttn_running (by rfl), ha, attnWanted_reset]
  rfl

/-- A part in reset or without supply acknowledges no address (R165). -/
theorem acknowledges_notRunning {s : State} (h : s.power ≠ .running) (address : BitVec 7) :
    acknowledges address s = false :=
  acknowledges_eq_false.mpr fun hn => h hn.1.1

/-- Settles O40: the three events of a power-on reset. -/
theorem powerOnResetRuns : Obligations.PowerOnResetRuns := by
  refine ⟨fun s => ?_, fun s b level hp => ⟨fun hr => ?_, fun hr => ?_⟩, fun s => ?_⟩
  · exact ⟨startPowerOn s, rfl, fun p => Table.read_const _ _, rfl,
      acknowledges_notRunning (by simp [startPowerOn])⟩
  · simp only [exec, execStartUpComplete, hp, hr, if_true]
  · simp only [exec, execStartUpComplete, hp, hr, Bool.false_eq_true, if_false,
      completeFullReset_eq]
    rfl
  · exact ⟨_, rfl, rfl, acknowledges_notRunning (by simp), rfl⟩

/-- Settles O41: RSTN falling and rising, by the power state. -/
theorem pinResetRuns : Obligations.PinResetRuns := by
  refine ⟨fun s h => ?_, fun s h => ?_, fun s level h => ?_, fun s level hr => ⟨fun h => ?_, fun h => ?_⟩⟩
  · obtain h | ⟨kind, h⟩ := blocksRun_eq_true.mp h <;> simp only [exec, execRstnLow, h] <;> rfl
  · obtain h | ⟨b, h⟩ := h <;> simp only [exec, execRstnLow, h]
  · cases hr : s.rstnLow with
    | true => obtain h | h := h <;> simp only [exec, execRstnRise, h, hr, if_true]
    | false =>
      simp only [exec, execRstnRise, hr, Bool.false_eq_true, if_false]
      rw [← hr]
  · simp only [exec, execRstnRise, h, hr, if_true, completeFullReset_eq]
    rfl
  · simp only [exec, execRstnRise, h, hr, if_true, completeFullReset_eq]
    rfl

/-- With an empty table and RESET_DONE alone, ATTN follows the mask's place of that event (R106). -/
theorem attnDue_resetStands {s : State} (hc : s.contacts = []) (he : s.events = .only .resetDone) :
    AttnDue s ↔ s.settings.attentionMask.has .resetDone = true := by
  simp [AttnDue, hc, he]

/-- The end of a requested reset, whatever `u` stands at it (R180). -/
theorem judgeAttn_completion (kind : ResetKind) (level : Bool) (u : State) :
    judgeAttn { dropTransaction u with
        power := .running, adselHigh := adselAfter kind level u.adselHigh } =
      { u with
        power := .running
        attn := attnWanted u
        adselHigh := if kind = .full then level else u.adselHigh
        port := { frame := [], frameCount := 0, reply := u.port.reply, executing := false,
                  sdaLow := false, timeoutRunning := false } } := by
  rw [judgeAttn_running (by rfl)]
  cases kind <;> rfl

/-- Settles O44: what stands at the completion of a requested reset, ATTN judged on it. -/
theorem requestedResetCompletes : Obligations.RequestedResetCompletes := by
  intro s kind level h
  have he : exec (.resetComplete level) s = .next (completeRequestedReset kind level s) := by
    simp only [exec, execResetComplete, h]
  have hu := judgeAttn_completion kind level (resetStands s)
  refine ⟨_, he.trans (congrArg _ hu), fun i => Table.read_mapAt _ _ _, fun e => ?_, rfl, ?_⟩
  · simp [resetStands]
  · exact (attnWanted_iff (resetStands s)).trans
      (attnDue_resetStands (s := resetStands s) rfl rfl)

/-! ### HOLD and its timers (R120, R124, R160, R161) -/

/-- The end of a hold wait, field by field (R161). -/
theorem endHoldWait_eq (s : State) :
    endHoldWait s =
      { s with scan := { s.scan with
          round := if s.scan.round = .holdWait then .idle else s.scan.round
          roundTimer := if s.scan.round = .holdWait ∧ s.scan.mode = .active then
            .running s.settings.roundInterval else s.scan.roundTimer
          watchTimer := if s.scan.round = .holdWait ∧ s.scan.mode = .watch then
            .running (50 * s.settings.watchInterval) else s.scan.watchTimer } } := by
  by_cases hr : s.scan.round = .holdWait
  · simp only [endHoldWait, hr, restartModeTimer, true_and, if_true]
    cases hm : s.scan.mode <;> simp [startRoundTimer, startWatchTimer]
  · have he : endHoldWait s = s := by
      unfold endHoldWait
      split
      · exact absurd ‹_› hr
      all_goals rfl
    simp only [he, hr, false_and, if_false]

theorem ifRunning_eq (x : RoundState) (a b : HoldTimer) :
    (if x.isRunning then a else b) =
      match x with
      | .running _ => a
      | .idle => b
      | .closing _ => b
      | .holdWait => b := by
  cases x <;> rfl

/-- Settles O38: HOLD's edges while the blocks run, and otherwise the level alone. -/
theorem holdEdgesActAtTheBlocks : Obligations.HoldEdgesActAtTheBlocks := by
  refine ⟨fun s h hh => ?_, fun s h => ?_, fun s => ⟨fun hh => ?_, fun hh => ?_⟩, fun s h hh => ?_⟩
  · simp only [exec, execHoldAssert, hh, h, Bool.false_eq_true, if_false, if_true,
      holdBegins_eq, ifRunning_eq]
    rfl
  · have hb : blocksRun s = false := blocksRun_eq_false.mpr h
    cases hh : s.hold with
    | true =>
      refine ⟨?_, by simp only [exec, execHoldRelease, hh, hb, if_true, Bool.false_eq_true, if_false]⟩
      simp only [exec, execHoldAssert, hh, if_true]
      rw [← hh]
    | false =>
      refine ⟨by simp only [exec, execHoldAssert, hh, hb, Bool.false_eq_true, if_false], ?_⟩
      simp only [exec, execHoldRelease, hh, Bool.false_eq_true, if_false]
      rw [← hh]
  · simp only [exec, execHoldAssert, hh, if_true]
  · simp only [exec, execHoldRelease, hh, Bool.false_eq_true, if_false]
  · refine ⟨holdEnds { s with hold := false }, ?_, ?_⟩
    · simp only [exec, execHoldRelease, hh, h, if_true]
    · rw [holdEnds, endHoldWait_eq]
      exact grantedFrom_grant _

/-- A conversion in flight is no longer the round's after a hold timeout (R161). -/
theorem disowned_eq (cv : Conversion) :
    disowned cv = { cv with ofRound := cv.ofRound && decide (cv.claimant = .host) } := by
  obtain ⟨_ | _, _, _, _, _, _, _⟩ := cv <;> simp [disowned]

/-- Settles O39: the two hold-limit expiries. -/
theorem holdLimitsExpire : Obligations.HoldLimitsExpire := by
  refine ⟨fun s ms r h ht hr => ?_, fun s ms target level h ht hs => ?_⟩
  · have hconv : (judgeAttn (holdTimeout s)).converter = s.converter.map fun cv =>
        { cv with ofRound := cv.ofRound && decide (cv.claimant = .host) } := by
      simp only [judgeAttn_fields, ← disowned_eq]
      rfl
    refine ⟨judgeAttn (holdTimeout s), ?_, fun e => ?_, fun cv hcv hcl => ?_, ?_⟩
    · simp only [exec, execRoundHoldLimitExpiry, ht, hr, blockEvent_run h]
    · simp [holdTimeout]
    · rw [hconv] at hcv
      obtain ⟨cv', _, rfl⟩ := Option.map_eq_some_iff.mp hcv
      simp [show cv'.claimant = .scan from hcl]
    · have hevents : (judgeAttn (holdTimeout s)).events = (holdTimeout s).events := by simp
      rw [hevents]
      refine (judgeAttn_eq _).trans ?_
      simp only [← disowned_eq]
      rfl
  · obtain hs | hs := hs <;>
      simp only [exec, execMeasureHoldLimitExpiry, ht, h, holdOff, hs]

/-! ### The mode's timers (R143, R148) -/

/-- With the round state other than IDLE no round is due (R148). -/
theorem startIfDue_of_not_idle {s : State} (h : s.scan.round ≠ .idle) : startIfDue s = s := by
  obtain ⟨hr, _⟩ | ⟨hr, _⟩ | h' := startIfDue_cases s
  · exact absurd hr h
  · exact absurd hr h
  · exact h'

/-- With the round state IDLE the present mode's EXPIRED timer starts a round (R148). -/
theorem startIfDue_due {kind : RoundKind} {s : State} (hr : s.scan.round = .idle)
    (hm : s.scan.mode = kind.mode) (ht : timerOfKind kind s = .expired) :
    startIfDue s = { s with scanClaim := some .ref, scan := scanAtStart kind s s.scan } := by
  rw [startIfDue_idle hr hm, if_pos ht, startRound_eq]

/-- Where the arbiter's law holds it has nothing to grant (R118). -/
theorem grant_of_arbiterLaw {s : State} (h : ArbiterLaw s) : grant s = s := by
  by_cases hb : s.converter ≠ none ∨ s.hold = true
  · exact grant_blocked hb
  · rw [not_or, not_not, Bool.not_eq_true] at hb
    obtain ⟨hc, hq⟩ := h hb.1 hb.2
    exact grant_none hq hc

/-- Settles O37: the expiry starts a round where the round state is IDLE; otherwise nothing waits that
the arbiter could grant. -/
theorem timerExpiryStartsARound : Obligations.TimerExpiryStartsARound := by
  intro s ms h hs
  have hrun : RunLaw s := (scanningLaw_iff s).mp hs h
  refine ⟨fun ht => ⟨fun hm hr => ?_, fun hr => ?_⟩, fun ht => ⟨fun hm hr => ?_, fun hr => ?_⟩⟩
  · refine ⟨grant (startIfDue { s with scan := { s.scan with roundTimer := .expired } }), ?_, ?_⟩
    · simp only [exec, execRoundTimerExpiry, ht, h]
    · rw [startIfDue_due (kind := .active) (by exact hr) (by exact hm) (by rfl)]
      exact grantedFrom_grant _
  · simp only [exec, execRoundTimerExpiry, ht, h]
    rw [startIfDue_of_not_idle (by exact hr), grant_of_arbiterLaw (by exact hrun.2)]
  · refine ⟨grant (startIfDue { s with scan := { s.scan with watchTimer := .expired } }), ?_, ?_⟩
    · simp only [exec, execWatchTimerExpiry, ht, h]
    · rw [startIfDue_due (kind := .watch) (by exact hr) (by exact hm) (by rfl)]
      exact grantedFrom_grant _
  · simp only [exec, execWatchTimerExpiry, ht, h]
    rw [startIfDue_of_not_idle (by exact hr), grant_of_arbiterLaw (by exact hrun.2)]

/-! ### SET MODE (R153 to R158) -/

theorem roundInFlight_eq_false {s : State} :
    roundInFlight s = false ↔ ∀ cv, ¬ RoundConverts s cv := by
  rw [← Bool.not_eq_true, roundInFlight_iff, not_exists]

/-- The state with its round ended and its claim withdrawn (R154). -/
def roundEnded (s : State) : State :=
  { s with scanClaim := none, scan := { s.scan with round := .idle, holdTimer := .stopped } }

/-- Under the law of the timers only a RUNNING round has its hold-limit timer running (R160). -/
theorem ModeWritten.holdTimer_stopped {s : State} (hs : ModeWritten s)
    (hr : ∀ r, s.scan.round ≠ .running r) : s.scan.holdTimer = .stopped := by
  by_contra hn
  obtain ⟨_, r, h⟩ := hs.timers.2.2.2.1 hn
  exact hr r h

/-- Without a conversion of it in flight the old round ends at once, and the new mode is entered
(R154). -/
theorem abandonForMode_ends {s : State} (hs : ModeWritten s) (hf : roundInFlight s = false) :
    abandonForMode s = enterMode (roundEnded s) := by
  have hw := hs.work
  unfold RoundWorkLaw at hw
  have hidle (hc : s.scanClaim = none) (ht : s.scan.holdTimer = .stopped) :
      endAbandonment s = enterMode (roundEnded s) := by
    simp [endAbandonment, roundEnded, hc, ht]
  unfold abandonForMode
  split
  · rw [hf]
    rfl
  · rename_i r hr
    simp [hr, hf] at hw
  · rename_i hr
    rw [hr] at hw
    exact hidle hw.2 (hs.holdTimer_stopped (by simp [hr]))
  · rename_i hr
    rw [hr] at hw
    exact hidle hw.2 (hs.holdTimer_stopped (by simp [hr]))

/-- With a conversion of it in flight the old round is CLOSING (R154). -/
theorem abandonForMode_closes {s : State} {r : Round} (hs : ModeWritten s)
    (hf : roundInFlight s = true) (hr : s.scan.round = .running r ∨ s.scan.round = .closing r) :
    abandonForMode s =
      { s with scan := { s.scan with round := .closing r, holdTimer := .stopped } } := by
  obtain hr | hr := hr
  · simp [abandonForMode, hr, hf]
  · have ht := hs.holdTimer_stopped (by simp [hr])
    simp only [abandonForMode, hr]
    rw [← hr, ← ht]

section
variable {s : State} (hs : RunLaw s)
include hs

/-- A change of mode with a conversion of the old round in flight (R154). -/
theorem changeMode_closes (mode : ScanMode) {cv : Conversion} {r : Round} (hcv : RoundConverts s cv)
    (hr : s.scan.round = .running r ∨ s.scan.round = .closing r) :
    changeMode mode s =
      { writeMode mode s with
        scan := { (writeMode mode s).scan with round := .closing r, holdTimer := .stopped } } := by
  have hf : roundInFlight (writeMode mode s) = true := by
    have : roundInFlight (writeMode mode s) = roundInFlight s := by cases mode <;> rfl
    rw [this, roundInFlight_iff]
    exact ⟨cv, hcv⟩
  have hr' : (writeMode mode s).scan.round = .running r
      ∨ (writeMode mode s).scan.round = .closing r := by cases mode <;> exact hr
  rw [changeMode, abandonForMode_closes (modeWritten_writeMode mode hs.1) hf hr']
  refine grant_blocked (.inl ?_)
  have hc : (writeMode mode s).converter = s.converter := by cases mode <;> rfl
  simp [hc, hcv.1]

variable (hn : ∀ cv, ¬ RoundConverts s cv)
include hn

/-- A change of mode with no conversion of a round in flight (R154). -/
theorem changeMode_enters (mode : ScanMode) :
    changeMode mode s = grant (enterMode (roundEnded (writeMode mode s))) := by
  have hf : roundInFlight (writeMode mode s) = false := by
    have : roundInFlight (writeMode mode s) = roundInFlight s := by cases mode <;> rfl
    rw [this, roundInFlight_eq_false]
    exact hn
  rw [changeMode, abandonForMode_ends (modeWritten_writeMode mode hs.1) hf]

/-- PAUSED runs nothing (R155). -/
theorem changeMode_paused :
    changeMode .paused s =
      { s with
        scanClaim := none
        scan := { s.scan with
          mode := .paused, roundTimer := .stopped, watchTimer := .stopped, round := .idle
          holdTimer := .stopped } } := by
  rw [changeMode_enters hs hn]
  exact grant_of_arbiterLaw fun hc hh => ⟨rfl, (hs.2 hc hh).2⟩

/-- ACTIVE starts its round, and the arbiter judges its claim (R156). -/
theorem changeMode_active :
    changeMode .active s = grant
      { s with
        scanClaim := some .ref
        scan :=
          { mode := .active
            round := .running { kind := .active, phase := .reference, last := none }
            roundTimer := .running s.settings.roundInterval
            watchTimer := .stopped
            holdTimer := (if s.hold then .running s.settings.holdLimit else .stopped)
            counter := s.scan.counter } } := by
  rw [changeMode_enters hs hn]
  rfl

/-- WATCH sets the unwatched touched channels to QUIET and waits for its timer (R158). -/
theorem changeMode_watch :
    changeMode .watch s =
      quietChannels { s with
        scanClaim := none
        scan := { s.scan with
          mode := .watch, round := .idle, roundTimer := .stopped
          watchTimer := .running (50 * s.settings.watchInterval), holdTimer := .stopped } } := by
  have hdue : enterMode (roundEnded (writeMode .watch s)) =
      quietChannels (roundEnded (writeMode .watch s)) := by
    show startIfDue (quietChannels (roundEnded (writeMode .watch s))) = _
    rw [startIfDue_idle (kind := .watch) (by rfl) (by rfl)]
    exact if_neg (by simp [timerOfKind, quietChannels, roundEnded, writeMode, startWatchTimer])
  rw [changeMode_enters hs hn, hdue]
  have hlaw : ArbiterLaw (roundEnded (writeMode .watch s)) := fun hc hh => ⟨rfl, (hs.2 hc hh).2⟩
  exact grant_of_arbiterLaw ((sameBlocks_quietChannels _).arbiter hlaw)

end

theorem takeSetMode_same {mode : ScanMode} {s : State} (h : s.scan.mode = mode) :
    takeSetMode mode s = answerOk [] s := if_pos h

theorem takeSetMode_changes {mode : ScanMode} {s : State} (h : s.scan.mode ≠ mode)
    (hw : ¬ (mode = .watch ∧ watchBlocked s = true)) :
    takeSetMode mode s = answerOk [] (changeMode mode s) := by
  rw [takeSetMode, if_neg h, if_neg hw]

/-- The bus record enters no law. -/
theorem runLaw_withBus {s : State} (hs : ScanningLaw s) (hp : s.power = .running) (b : BusView) :
    RunLaw { s with bus := b } :=
  (scanningLaw_iff { s with bus := b }).mp hs (blocksRun_running hp)

/-- Settles O15: PAUSED by the conversion in flight. -/
theorem setModePausedAbandonsTheRound : Obligations.SetModePausedAbandonsTheRound := by
  refine ⟨fun s h hm => ?_, fun s h hm hs => ⟨fun hn => ?_, fun cv r hcv hr => ?_⟩⟩
  · exact exec_writes s rfl rfl h (fun b => takeSetMode_same hm) rfl rfl
  · refine exec_writes _ rfl rfl h (fun b => ?_) rfl rfl
    rw [takeSetMode_changes (by exact hm) (by simp),
      changeMode_paused (runLaw_withBus hs h.1 b) (by exact hn)]
    rfl
  · refine exec_writes _ rfl rfl h (fun b => ?_) rfl rfl
    rw [takeSetMode_changes (by exact hm) (by simp),
      changeMode_closes (runLaw_withBus hs h.1 b) _ (by exact hcv) (by exact hr)]
    rfl

/-- The claim of an ACTIVE round that starts is granted with the converter IDLE and HOLD released, the
pins staying as they are (R115, R118). -/
theorem changeMode_active_granted {s : State} (hs : RunLaw s) (hn : ∀ cv, ¬ RoundConverts s cv)
    (hc : s.converter = none) (hh : s.hold = false) :
    changeMode .active s =
      { s with
        scanClaim := none
        converter := some (referenceConversion s)
        scan :=
          { mode := .active
            round := .running { kind := .active, phase := .reference, last := none }
            roundTimer := .running s.settings.roundInterval
            watchTimer := .stopped
            holdTimer := (if s.hold then .running s.settings.holdLimit else .stopped)
            counter := s.scan.counter } } := by
  rw [changeMode_active hs hn, grant_scan (target := .ref) (by exact hc) (by exact hh)
    (by exact (hs.2 hc hh).2) (by rfl), grantScan_eq]
  have hd : idlePins s.channels = s.drive := (hs.1.pins hc).symm
  simp only [pinsFor, hd]
  rfl

/-- The claim of an ACTIVE round that starts waits behind a measurement or HOLD (R118). -/
theorem changeMode_active_waits {s : State} (hs : RunLaw s) (hn : ∀ cv, ¬ RoundConverts s cv)
    (hb : s.converter ≠ none ∨ s.hold = true) :
    changeMode .active s =
      { s with
        scanClaim := some .ref
        scan :=
          { mode := .active
            round := .running { kind := .active, phase := .reference, last := none }
            roundTimer := .running s.settings.roundInterval
            watchTimer := .stopped
            holdTimer := (if s.hold then .running s.settings.holdLimit else .stopped)
            counter := s.scan.counter } } := by
  rw [changeMode_active hs hn, grant_blocked (by exact hb)]

/-- Settles O16: ACTIVE by the conversion in flight, and the grant of its REF claim. -/
theorem setModeActiveStartsARound : Obligations.SetModeActiveStartsARound := by
  refine ⟨fun s h hm => ?_, fun s h hm hs => ⟨fun hn => ?_, fun cv r hcv hr => ?_⟩⟩
  · exact exec_writes s rfl rfl h (fun b => takeSetMode_same hm) rfl rfl
  · by_cases hidle : s.converter = none ∧ s.hold = false
    · have he := exec_writes (r := bare .ok) (c := .setModeActive) { s with
          scanClaim := none
          converter := some (referenceConversion s)
          scan :=
            { mode := .active
              round := .running { kind := .active, phase := .reference, last := none }
              roundTimer := .running s.settings.roundInterval
              watchTimer := .stopped
              holdTimer := (if s.hold then .running s.settings.holdLimit else .stopped)
              counter := s.scan.counter } } rfl rfl h (fun b => by
        rw [takeSetMode_changes (by exact hm) (by simp), changeMode_active_granted
          (runLaw_withBus hs h.1 b) (by exact hn) (by exact hidle.1) (by exact hidle.2)]
        rfl) rfl rfl
      refine ⟨_, he, rfl, ?_, rfl⟩
      rw [if_pos hidle]
      exact ⟨rfl, rfl⟩
    · have hb : s.converter ≠ none ∨ s.hold = true := by
        rwa [not_and_or, Bool.not_eq_false] at hidle
      have he := exec_writes (r := bare .ok) (c := .setModeActive) { s with
          scanClaim := some .ref
          scan :=
            { mode := .active
              round := .running { kind := .active, phase := .reference, last := none }
              roundTimer := .running s.settings.roundInterval
              watchTimer := .stopped
              holdTimer := (if s.hold then .running s.settings.holdLimit else .stopped)
              counter := s.scan.counter } } rfl rfl h (fun b => by
        rw [takeSetMode_changes (by exact hm) (by simp), changeMode_active_waits
          (runLaw_withBus hs h.1 b) (by exact hn) (by exact hb)]
        rfl) rfl rfl
      refine ⟨_, he, rfl, ?_, rfl⟩
      rw [if_neg hidle]
      exact ⟨rfl, rfl⟩
  · refine exec_writes _ rfl rfl h (fun b => ?_) rfl rfl
    rw [takeSetMode_changes (by exact hm) (by simp),
      changeMode_closes (runLaw_withBus hs h.1 b) _ (by exact hcv) (by exact hr)]
    rfl

/-- A zone blocks WATCH while it has a current contact or is pending (R157). -/
theorem watchBlocked_iff (s : State) :
    watchBlocked s = true ↔
      ∃ i z, Table.read s.zones i = some z ∧ (z.current ≠ none ∨ z.pending = true) := by
  rw [watchBlocked, Table.anyAt_eq_true]
  refine exists_congr fun i => ?_
  cases Table.read s.zones i <;> simp [zoneBlocksWatch, Option.isSome_iff_ne_none]

/-- Settles O17: the refusal, then WATCH by the conversion in flight. -/
theorem setModeWatchIsRefusedOrEnters : Obligations.SetModeWatchIsRefusedOrEnters := by
  refine ⟨fun s h hm => ?_, fun s h hm hs => ⟨fun hz => ?_, fun hz => ?_⟩⟩
  · exact exec_writes s rfl rfl h (fun b => takeSetMode_same hm) rfl rfl
  · refine exec_refused rfl rfl h ?_
    rw [handOff_eq, takeSetMode, if_neg (by exact hm)]
    exact if_pos ⟨rfl, (watchBlocked_iff _).mpr hz⟩
  · have hfree : ¬ watchBlocked s = true := by
      rw [watchBlocked_iff]
      rintro ⟨i, z, hi, hz'⟩
      have := hz i z hi
      simp [this] at hz'
    refine ⟨fun hn => ?_, fun cv r hcv hr => ?_⟩
    · refine ⟨(quietChannels s).channels, fun i => ?_, exec_writes _ rfl rfl h (fun b => ?_) rfl rfl⟩
      · rw [quietChannels, Table.read_mapAt]
        rfl
      · rw [takeSetMode_changes (by exact hm) (by exact fun hw => hfree hw.2),
          changeMode_watch (runLaw_withBus hs h.1 b) (by exact hn)]
        rfl
    · refine exec_writes _ rfl rfl h (fun b => ?_) rfl rfl
      rw [takeSetMode_changes (by exact hm) (by exact fun hw => hfree hw.2),
        changeMode_closes (runLaw_withBus hs h.1 b) _ (by exact hcv) (by exact hr)]
      rfl

end Sys2Proof.Machine
end

section
/-! PROOFS. The completion of a conversion: what each outcome hands on, and the next grant (R112, R113,
R118, R119, R123, R144 to R154). -/

namespace Sys2Proof.Machine

/-! ### The completion in the words of the statements -/

section
variable {s : State} {cv : Conversion} (h : blocksRun s = true) (hcv : s.converter = some cv)
include h hcv

theorem exec_completes_host (hcl : cv.claimant = .host) (n : BitVec 12) :
    exec (.conversionComplete n) s =
      .next (judgeAttn (grant (finishHost cv n.toNat (releaseConverter s)))) := by
  simp only [exec, execConversionComplete, hcv, blockEvent_run h,
    completeConversion_host n.toNat hcv hcl]

theorem exec_completes_scan (hcl : cv.claimant = .scan) (n : BitVec 12) :
    exec (.conversionComplete n) s =
      .next (judgeAttn (grant (finishScan cv n.toNat (releaseConverter s)))) := by
  simp only [exec, execConversionComplete, hcv, blockEvent_run h,
    completeConversion_scan n.toNat hcv hcl]

end

/-- What the outcome leaves, then the grant, then ATTN. -/
theorem conversionEnds_of_release {u v : State} (h : v = releaseConverter u) :
    ConversionEnds u (judgeAttn (grant v)) := conversionEnds_grant h

/-! ### The end of a host conversion (R123) -/

/-- Settles O28: the slot by the conversion's held flag, then the grant. -/
theorem hostConversionEndsInItsSlot : Obligations.HostConversionEndsInItsSlot := by
  intro s cv n h hcv hcl
  have he := exec_completes_host h hcv hcl n
  refine ⟨fun target level hs => ⟨fun hh => ?_, fun hh => ?_⟩, fun hs => ?_⟩
  · refine ⟨_, s.events ||| .only .measureDone, he, fun e => ?_, conversionEnds_of_release ?_⟩
    · rw [has_or, has_only]
    · simp only [finishHost, releaseConverter_slot, hs, hh, Bool.false_eq_true, if_false]
      rfl
  · refine ⟨_, he, conversionEnds_of_release ?_⟩
    simp only [finishHost, releaseConverter_slot, hs, hh, if_true]
    rfl
  · refine ⟨_, he, conversionEnds_of_release ?_⟩
    obtain ⟨t, l, hx, _⟩ | ⟨_, hx⟩ := finishHost_cases cv n.toNat (releaseConverter s)
    · exact absurd hx (hs t l)
    · exact hx

/-! ### Samples and the release of the converter -/

/-- The release of the converter and a reference sample do not touch each other. -/
theorem applyReference_release (raw : Nat) (s : State) :
    applyReference raw (releaseConverter s) = releaseConverter (applyReference raw s) := by
  unfold applyReference
  simp only [releaseConverter_settings, releaseConverter_reference]
  cases (judgeReference s.settings raw s.reference).raised <;> rfl

/-- A sample changes no role, so the pins between conversions are the same after it (R115). -/
theorem idlePins_applySample (i : Fin 32) (raw : Nat) (s : State) :
    idlePins (applySample i raw s).channels = idlePins s.channels := by
  refine idlePins_congr fun j => ?_
  rw [(applySample_fields i raw s).2.2.2.2.2.1, Table.read_write]
  split
  · rename_i h
    rw [← h]
  · rfl

theorem applySample_release (i : Fin 32) (raw : Nat) (s : State) :
    applySample i raw (releaseConverter s) = releaseConverter (applySample i raw s) := by
  have hpins := idlePins_applySample i raw s
  unfold releaseConverter
  rw [hpins]
  unfold applySample
  dsimp only
  cases (sampleEvent s.settings s.reference.offset raw (Table.read s.channels i)).raised <;> rfl

/-! ### The outcome of a conversion of a round -/

section
variable {s : State} {cv : Conversion} {raw : Nat} (ho : cv.ofRound = true)
include ho

/-- A kept reference count is judged, and its verdict moves the round (R112, R144). -/
theorem finishScan_reference (ht : cv.target = .ref) (hh : cv.held = false) :
    finishScan cv raw s =
      roundAfterReference (referenceVerdict raw s) (applyReference raw s) := by
  simp [finishScan, discardOf_eq, ho, ht, hh]

/-- A kept channel count is a sample event (R112, R146). -/
theorem finishScan_sample {i : Fin 32} (ht : cv.target = .channel i) (hh : cv.held = false)
    (hl : cv.roleLost = false) :
    finishScan cv raw s = roundAfterChannel (applySample i raw s) := by
  simp [finishScan, discardOf_eq, ho, ht, hh, hl]

/-- A held conversion is discarded (R113). -/
theorem finishScan_held (hh : cv.held = true) (hl : cv.roleLost = false ∨ cv.target = .ref) :
    finishScan cv raw s = roundAfterHeld cv.target s := by
  obtain hl | hl := hl <;> simp [finishScan, discardOf_eq, ho, hh, hl]

/-- A conversion that lost its role is discarded (R113). -/
theorem finishScan_lost (hl : cv.roleLost = true) (ht : cv.target ≠ .ref) :
    finishScan cv raw s = roundAfterChannel s := by
  simp [finishScan, discardOf_eq, ho, hl, ht]

end

/-- The released state with the turn of channel `j` claimed (R145). -/
theorem channelTurn_release {r : Round} {u : State} {j : Fin 32} (h : NextTurn r u.channels j) :
    channelTurn r (releaseConverter u) =
      releaseConverter { u with scan := scanAtTurn r j u, scanClaim := some (.channel j) } :=
  channelTurn_next (s := releaseConverter u) h

theorem roundAfterChannel_running {s : State} {r : Round} (h : s.scan.round = .running r) :
    roundAfterChannel s = channelTurn r s := by simp only [roundAfterChannel, h]

/-- Settles O29: the sample is applied, and the channel with the next turn is claimed. -/
theorem keptSampleTakesTheNextTurn : Obligations.KeptSampleTakesTheNextTurn := by
  intro s cv n i j r h hcv ht hh hl hr c o channels hj
  obtain ⟨hconv, hcl, ho⟩ := hcv
  have hchannels : (applySample i n.toNat s).channels = channels :=
    (applySample_fields i n.toNat s).2.2.2.2.2.1
  refine ⟨_, (applySample i n.toNat s).events, exec_completes_scan h hconv hcl n,
    has_applySample i n.toNat s, conversionEnds_of_release ?_⟩
  rw [finishScan_sample ho ht hh hl, applySample_release,
    roundAfterChannel_running (r := r) (by simpa using hr),
    channelTurn_release (j := j) (by rw [hchannels]; exact hj)]
  refine congrArg releaseConverter ?_
  conv_lhs => rw [applySample_eq]
  rfl

/-! ### Discarded conversions (R113, R119, R146, R161) -/

theorem roundAfterHeld_release {s : State} {r : Round} {x : Target}
    (hr : s.scan.round = .running r)
    (hx : ∀ i, x = .channel i → Qualifies r.kind (Table.read s.channels i)) :
    roundAfterHeld x (releaseConverter s) = releaseConverter { s with scanClaim := some x } := by
  unfold roundAfterHeld
  simp only [releaseConverter_scan, hr, releaseConverter_channels]
  cases x with
  | ref => rfl
  | channel i => exact if_pos ((qualifies_iff _ _).mpr (hx i rfl))

/-- A held conversion of a channel that no longer qualifies passes its turn on (R146). -/
theorem roundAfterHeld_passes {s : State} {r : Round} {i : Fin 32}
    (hr : s.scan.round = .running r) (hx : ¬ Qualifies r.kind (Table.read s.channels i)) :
    roundAfterHeld (.channel i) s = channelTurn r s := by
  unfold roundAfterHeld
  simp only [hr]
  exact if_neg fun h => hx ((qualifies_iff _ _).mp h)

/-- A conversion of a channel that yields no sample and is not repeated leaves the channel's turn to the
next (R113, R146). -/
theorem finishScan_passes {s : State} {cv : Conversion} {r : Round} {i : Fin 32} {raw : Nat}
    (ho : cv.ofRound = true) (ht : cv.target = .channel i) (hr : s.scan.round = .running r)
    (hx : cv.roleLost = true
      ∨ (cv.held = true ∧ ¬ Qualifies r.kind (Table.read s.channels i))) :
    finishScan cv raw s = channelTurn r s := by
  cases hl : cv.roleLost with
  | true =>
    rw [finishScan_lost ho hl (by simp [ht]), roundAfterChannel_running hr]
  | false =>
    obtain ⟨hh, hq⟩ := hx.resolve_left (by simp [hl])
    rw [finishScan_held ho hh (.inl hl), ht, roundAfterHeld_passes hr hq]

theorem discardOf_ne_kept {cv : Conversion} (h : cv.held = true) : discardOf cv ≠ .kept := by
  rw [discardOf_eq, if_pos h]
  split <;> simp

/-- Settles O30: held, the target is claimed again; passed over, the next turn is taken; left by a hold
timeout, nothing is done. -/
theorem discardedConversionIsRepeatedOrPassed :
    Obligations.DiscardedConversionIsRepeatedOrPassed := by
  refine ⟨?_, ?_⟩
  · intro s cv n r h hcv hr ends
    obtain ⟨hconv, hcl, ho⟩ := hcv
    have hends {u : State} (hu : finishScan cv n.toNat (releaseConverter s) = releaseConverter u) :
        ends u := ⟨_, exec_completes_scan h hconv hcl n, conversionEnds_of_release hu⟩
    refine ⟨fun ht hh => hends ?_, fun i ht hh hl hq => hends ?_, fun i j ht hx hj => hends ?_⟩
    · rw [finishScan_held ho hh (.inr ht), ht]
      exact roundAfterHeld_release hr (by simp)
    · rw [finishScan_held ho hh (.inl hl), ht]
      exact roundAfterHeld_release hr (by rintro _ ⟨⟩; exact hq)
    · rw [finishScan_passes (s := releaseConverter s) ho ht hr hx]
      exact channelTurn_release hj
  · intro s cv n h hconv hcl ho hh
    refine ⟨_, exec_completes_scan h hconv hcl n, conversionEnds_of_release ?_⟩
    unfold finishScan
    simp only [ho, Bool.false_eq_true, if_false]
    split
    · rename_i hd _
      exact absurd hd (discardOf_ne_kept hh)
    · rename_i hd _
      exact absurd hd (discardOf_ne_kept hh)
    · rfl
    · rfl

/-! ### The end of a completed round (R147 to R150) -/

/-- The events that the end of a round raises (R149). -/
def overrun (late : Bool) : EventSet := if late then .only .roundOverrun else 0#11

theorem has_overrun (late : Bool) (e : StatusEvent) :
    EventSet.has (overrun late) e = (late && decide (e = .roundOverrun)) := by
  cases late with
  | false => simp [overrun, EventSet.has]
  | true => simp [overrun]

/-- The end of a round, with its overrun (R147, R149, R150). -/
theorem closeRound_overrun (kind : RoundKind) (s : State) :
    closeRound kind s =
      { s with
        events := s.events ||| overrun (decide (timerOfKind kind s = .expired))
        scan := scanAtEnd s } := by
  unfold closeRound
  split <;> rename_i h
  · rw [decide_eq_true h]
    rfl
  · rw [decide_eq_false h]
    simp [overrun, scanAtEnd]

/-- What the start condition leaves after the end of a round in state `s`, other fields than the Scan
Controller's as in `w` (R148). -/
theorem startIfDue_closed {kind : RoundKind} {s w : State} (hw : w.scan = scanAtEnd s)
    (hg : w.settings = s.settings) (hh : w.hold = s.hold) (hm : s.scan.mode = kind.mode) :
    startIfDue w =
      { w with
        scan := if decide (timerOfKind kind s = .expired) then scanAtStart kind s (scanAtEnd s)
          else scanAtEnd s
        scanClaim := if decide (timerOfKind kind s = .expired) then some .ref else w.scanClaim } := by
  have ht : timerOfKind kind w = timerOfKind kind s := by
    cases kind <;> simp only [timerOfKind, hw] <;> rfl
  rw [startIfDue_idle (kind := kind) (by rw [hw]; rfl) (by rw [hw]; exact hm), ht]
  by_cases hlate : timerOfKind kind s = .expired
  · rw [if_pos hlate, decide_eq_true hlate, startRound_eq, hw]
    simp [scanAtStart, hg, hh]
  · rw [if_neg hlate, decide_eq_false hlate, ← hw]
    rfl

theorem late_eq (r : Round) (s : State) :
    decide ((if r.kind = .active then s.scan.roundTimer else s.scan.watchTimer) = .expired) =
      decide (timerOfKind r.kind s = .expired) := by
  cases r.kind <;> rfl

/-- The mode that a RUNNING round of kind `r.kind` runs in (R151). -/
theorem RoundKindLaw.mode {s : State} {r : Round} (h : RoundKindLaw s)
    (hr : s.scan.round = .running r) : s.scan.mode = r.kind.mode := by
  obtain ⟨h1, h2⟩ := h r hr
  cases hk : r.kind with
  | active => exact h1 hk
  | watch => exact h2 hk

/-- A noise round ends, and nothing is passed on (R144, R152). -/
theorem roundAfterReference_noise {s : State} {r : Round} (hr : s.scan.round = .running r)
    (hm : s.scan.mode = r.kind.mode) :
    roundAfterReference .noise (releaseConverter s) =
      releaseConverter { s with
        events := s.events ||| overrun (decide (timerOfKind r.kind s = .expired))
        scan := if decide (timerOfKind r.kind s = .expired) then
            scanAtStart r.kind s (scanAtEnd s) else scanAtEnd s
        scanClaim := if decide (timerOfKind r.kind s = .expired) then some .ref
          else s.scanClaim } := by
  have hround : roundAfterReference .noise (releaseConverter s) =
      startIfDue (closeRound r.kind (releaseConverter s)) := by
    simp only [roundAfterReference, releaseConverter_scan, hr]
    rfl
  rw [hround, closeRound_overrun, startIfDue_closed (kind := r.kind) (s := s) (by rfl) (by rfl) (by rfl) hm]
  rfl

/-- A round that proceeds takes its first turn (R144, R145). -/
theorem roundAfterReference_proceed {s : State} {r : Round} {j : Fin 32}
    (hr : s.scan.round = .running r) (hj : NextTurn r s.channels j) :
    roundAfterReference .proceed (releaseConverter s) =
      releaseConverter { s with scan := scanAtTurn r j s, scanClaim := some (.channel j) } := by
  simp only [roundAfterReference, releaseConverter_scan, hr]
  exact channelTurn_release hj

/-- Settles O33: the verdict of the reference sample, then the round's end or its first turn. -/
theorem verdictMovesTheRound : Obligations.VerdictMovesTheRound := by
  intro s cv n r h hcv ht hh hr hk o late
  obtain ⟨hconv, hcl, ho⟩ := hcv
  have he := exec_completes_scan h hconv hcl n
  have hfinish : finishScan cv n.toNat (releaseConverter s) =
      roundAfterReference o.verdict (releaseConverter (applyReference n.toNat s)) := by
    rw [finishScan_reference ho ht hh, applyReference_release]
    rfl
  have hsample := applyReference_eq n.toNat s
  generalize hevents : (applyReference n.toNat s).events = events at hsample
  have hhas (e : StatusEvent) : events.has e = (s.events.has e || decide (o.raised = some e)) := by
    rw [← hevents, has_applyReference]
  rw [hsample] at hfinish
  refine ⟨fun hv => ?_, fun j hv hj => ?_⟩
  · refine ⟨_, events ||| overrun late, he, fun e => ?_, conversionEnds_of_release ?_⟩
    · rw [has_or, hhas, has_overrun]
    · rw [hfinish, hv, roundAfterReference_noise (by exact hr) (by exact hk.mode hr)]
      simp only [late, late_eq]
      rfl
  · refine ⟨_, events, he, hhas, conversionEnds_of_release ?_⟩
    rw [hfinish, hv, roundAfterReference_proceed (by exact hr) (by exact hj)]
    rfl

/-! ### A CLOSING round (R154) -/

/-- The state with its round state IDLE. -/
def roundIdle (s : State) : State := { s with scan := { s.scan with round := .idle } }

/-- What a completion hands on before the round is told (R112, R113). -/
def handedOn (cv : Conversion) (raw : Nat) (s : State) : State :=
  if cv.roleLost = true ∧ cv.target ≠ .ref then s
  else if cv.held = true then s
  else match cv.target with
    | .ref => applyReference raw s
    | .channel i => applySample i raw s

/-- A sample writes neither the Scan Controller nor its claim, its settings, HOLD or the slot. -/
theorem handedOn_fields (cv : Conversion) (raw : Nat) (s : State) :
    (handedOn cv raw s).scan = s.scan ∧ (handedOn cv raw s).settings = s.settings
      ∧ (handedOn cv raw s).hold = s.hold := by
  unfold handedOn
  split_ifs
  · exact ⟨rfl, rfl, rfl⟩
  · exact ⟨rfl, rfl, rfl⟩
  · split <;> simp

/-- Whatever the completion hands on, a CLOSING round ends by abandonment (R154). -/
theorem finishScan_closing {s : State} {cv : Conversion} {r : Round} {raw : Nat}
    (ho : cv.ofRound = true) (hr : s.scan.round = .closing r) :
    finishScan cv raw (releaseConverter s) =
      endAbandonment (releaseConverter (handedOn cv raw s)) := by
  have hclosed {u : State} (hu : u.scan = s.scan) (v : Verdict) (x : Target) :
      roundAfterReference v (releaseConverter u) = endAbandonment (releaseConverter u)
        ∧ roundAfterChannel (releaseConverter u) = endAbandonment (releaseConverter u)
        ∧ roundAfterHeld x (releaseConverter u) = endAbandonment (releaseConverter u) := by
    simp only [roundAfterReference, roundAfterChannel, roundAfterHeld, releaseConverter_scan, hu, hr,
      and_self]
  unfold handedOn
  split_ifs with hl hh
  · rw [finishScan_lost ho hl.1 hl.2]
    exact (hclosed rfl .noise .ref).2.1
  · have hl' : cv.roleLost = false ∨ cv.target = .ref :=
      (not_and_or.mp hl).imp Bool.eq_false_of_not_eq_true not_not.mp
    rw [finishScan_held ho hh hl']
    exact (hclosed rfl .noise _).2.2
  · have hh' : cv.held = false := by simpa using hh
    split
    · rename_i ht
      rw [finishScan_reference ho ht hh', applyReference_release]
      exact (hclosed (by simp) _ .ref).1
    · rename_i i ht
      have hl' : cv.roleLost = false := by simpa [ht] using hl
      rw [finishScan_sample ho ht hh' hl', applySample_release]
      exact (hclosed (by simp) .noise .ref).2.1

theorem quietChannels_release (s : State) :
    quietChannels (releaseConverter s) = releaseConverter (quietChannels s) := by
  have hpins : idlePins (quietChannels s).channels = idlePins s.channels :=
    idlePins_congr fun i => by simp
  unfold releaseConverter
  rw [hpins]
  rfl

theorem enterMode_paused {s : State} (h : s.scan.mode = .paused) : enterMode s = s := by
  simp only [enterMode, h]

theorem enterMode_active {s : State} (h : s.scan.mode = .active) :
    enterMode s = startRound .active s := by simp only [enterMode, h]

theorem enterMode_watch {s : State} (h : s.scan.mode = .watch) :
    enterMode s = startIfDue (quietChannels s) := by simp only [enterMode, h, quietChannels]

/-- The start condition once the round state is IDLE in WATCH (R148, R158). -/
theorem startIfDue_watch {u : State} (hr : u.scan.round = .idle) (hm : u.scan.mode = .watch) :
    startIfDue u = if u.scan.watchTimer = .expired then startRound .watch u else u :=
  startIfDue_idle (kind := .watch) hr hm

/-- Settles O34: what the completion hands on, then the entry of the present mode. -/
theorem closingRoundEndsByAbandonment : Obligations.ClosingRoundEndsByAbandonment := by
  intro s cv n r h hcv hr u idle
  obtain ⟨hconv, hcl, ho⟩ := hcv
  obtain ⟨hscan, hset, hhold⟩ : u.scan = s.scan ∧ u.settings = s.settings ∧ u.hold = s.hold :=
    handedOn_fields cv n.toNat s
  have hidle : roundIdle (releaseConverter u) = releaseConverter { u with scan := idle } := by
    simp only [roundIdle, releaseConverter, hscan, idle]
  have hfinish : finishScan cv n.toNat (releaseConverter s) =
      enterMode (releaseConverter { u with scan := idle }) :=
    (finishScan_closing ho hr).trans (congrArg enterMode hidle)
  refine ⟨_, exec_completes_scan h hconv hcl n, fun hm => ?_, fun hm => ?_, fun hm => ?_⟩
  · refine conversionEnds_of_release ?_
    rw [hfinish, enterMode_paused (by exact hm)]
  · refine conversionEnds_of_release ?_
    rw [hfinish, enterMode_active (by exact hm), startRound_eq]
    simp only [scanAtStart, releaseConverter, hset, hhold]
  · have hquiet : quietChannels (releaseConverter { u with scan := idle }) =
        releaseConverter { u with channels := (quietChannels u).channels, scan := idle } :=
      quietChannels_release { u with scan := idle }
    refine ⟨(quietChannels u).channels, fun i => Table.read_mapAt _ _ _, ?_⟩
    rw [hfinish, enterMode_watch (by exact hm), hquiet]
    generalize (quietChannels u).channels = channels
    rw [startIfDue_watch (by rfl) (by exact hm)]
    by_cases hdue : s.scan.watchTimer = .expired
    · rw [if_pos hdue, if_pos (by exact hdue), startRound_eq]
      refine conversionEnds_of_release ?_
      simp only [scanAtStart, releaseConverter, hset, hhold]
    · rw [if_neg hdue, if_neg (by exact hdue)]
      exact conversionEnds_of_release rfl

/-! ### The end of a completed round that proceeds (R147, R151) -/

/-- What the last outcome leaves for the round end agrees with the state before in the Scan Controller,
its claim, the settings and HOLD. -/
theorem LastOutcome.fields {n : Nat} {r : Round} {s u : State} (h : LastOutcome n r s u) :
    u.scan = s.scan ∧ u.scanClaim = s.scanClaim ∧ u.settings = s.settings ∧ u.hold = s.hold := by
  obtain ⟨_, _, cv, _, hu⟩ := h
  cases ht : cv.target with
  | ref =>
    rw [ht] at hu
    obtain ⟨_, _, rfl⟩ := hu
    simp
  | channel i =>
    rw [ht] at hu
    obtain ⟨_, _, rfl⟩ | ⟨_, rfl⟩ := hu <;> simp

/-- The last outcome of a round ends it (R144 to R147). -/
theorem LastOutcome.exec_completes {n : BitVec 12} {r : Round} {s u : State}
    (h : LastOutcome n.toNat r s u) (hb : blocksRun s = true) :
    exec (.conversionComplete n) s =
      .next (judgeAttn (grant (completeRound r.kind .proceed (releaseConverter u)))) := by
  obtain ⟨hscan, _⟩ := h.fields
  obtain ⟨hr, hend, cv, ⟨hconv, hcl, ho⟩, hu⟩ := h
  have hturn : channelTurn r (releaseConverter u) =
      completeRound r.kind .proceed (releaseConverter u) :=
    channelTurn_end (s := releaseConverter u) hend
  have hru : (releaseConverter u).scan.round = .running r := by
    rw [releaseConverter_scan, hscan, hr]
  rw [exec_completes_scan hb hconv hcl, ← hturn]
  cases ht : cv.target with
  | ref =>
    rw [ht] at hu
    obtain ⟨hh, hv, rfl⟩ := hu
    have hverdict : referenceVerdict n.toNat (releaseConverter s) = .proceed := hv
    rw [finishScan_reference ho ht hh, applyReference_release, hverdict]
    simp only [roundAfterReference, hru]
  | channel i =>
    rw [ht] at hu
    obtain ⟨hh, hl, rfl⟩ | ⟨hx, rfl⟩ := hu
    · rw [finishScan_sample ho ht hh hl, applySample_release, roundAfterChannel_running hru]
    · rw [finishScan_passes (s := releaseConverter u) ho ht hru hx]

/-- Settles O36: the round is closed, the wake check starts an ACTIVE round, or the next WATCH round
starts where the timer is EXPIRED. -/
theorem watchRoundEndWakes : Obligations.WatchRoundEndWakes := by
  intro s u n r hb hk hm hlast touched late
  obtain ⟨hscan, hclaim, hset, hhold⟩ := hlast.fields
  have hlate : decide (timerOfKind .watch (releaseConverter u) = .expired) = late := by
    simp only [timerOfKind, releaseConverter_scan, hscan, late]
  have hround : completeRound .watch .proceed (releaseConverter u) =
      startIfDue (wakeCheck (releaseConverter
        { u with events := u.events ||| overrun late, scan := scanAtEnd s })) := by
    simp only [completeRound, passOn, closeRound_overrun, hlate]
    simp only [scanAtEnd, releaseConverter, hscan]
  have hwatched : watchedTouched (releaseConverter
      { u with events := u.events ||| overrun late, scan := scanAtEnd s }) = true ↔ touched :=
    watchedTouched_iff _
  have he := hlast.exec_completes hb
  rw [hk, hround] at he
  by_cases ht : touched
  · refine ⟨_, u.events ||| overrun late ||| .only .woken, he, fun e => ?_, fun _ => ?_,
      fun hn => absurd ht hn⟩
    · simp [has_overrun, ht, or_assoc]
    · refine conversionEnds_of_release ?_
      rw [wakeCheck, if_pos (hwatched.mpr ht), startRound_eq, startIfDue_of_not_idle]
      · simp only [raise, scanAtStart, releaseConverter, hset, hhold]
      · simp [scanAtStart]
  · refine ⟨_, u.events ||| overrun late, he, fun e => ?_, fun hp => absurd hp ht, fun _ => ?_⟩
    · simp [has_overrun, ht]
    · refine conversionEnds_of_release ?_
      rw [wakeCheck, if_neg (hwatched.not.mpr ht),
        startIfDue_closed (kind := .watch) (s := s) (by rfl) (by exact hset) (by exact hhold) hm]
      simp only [timerOfKind, releaseConverter, hclaim]
      rfl

/-! ### Round-end processing (R73 to R83) -/

/-- The state with its round closed: what the end of a round and the release of the converter write,
which round-end processing does not read. -/
def roundClosed (raised : EventSet) (c : Scan) (d : Vector PinDrive 32) (s : State) : State :=
  { s with converter := none, drive := d, events := s.events ||| raised, scan := c }

section
variable {raised : EventSet} {c : Scan} {d : Vector PinDrive 32}

theorem raise_roundClosed (e : StatusEvent) (s : State) :
    raise e (roundClosed raised c d s) = roundClosed raised c d (raise e s) := by
  simp only [raise, roundClosed, BitVec.or_assoc, BitVec.or_comm raised]

theorem expiryStage_roundClosed (s : State) :
    expiryStage (roundClosed raised c d s) = roundClosed raised c d (expiryStage s) := by
  have hc : (roundClosed raised c d s).contacts = s.contacts := rfl
  have hg : (roundClosed raised c d s).settings = s.settings := rfl
  unfold expiryStage
  simp only [hc, hg]
  split
  · exact raise_roundClosed .liftExpired
      { s with contacts := s.contacts.filter fun c => !expires s.settings.autoRetire c }
  · rfl

theorem serveZone_roundClosed (i : Fin 16) (z : Zone) (s : State) :
    serveZone i z (roundClosed raised c d s) = roundClosed raised c d (serveZone i z s) := by
  have hc : (roundClosed raised c d s).contacts = s.contacts := rfl
  unfold serveZone
  simp only [hc]
  split <;> rfl

theorem resolveDefined_roundClosed (i : Fin 16) (z : Zone) (s : State) :
    resolveDefined i z (roundClosed raised c d s) =
      roundClosed raised c d (resolveDefined i z s) := by
  have hc : (roundClosed raised c d s).channels = s.channels := rfl
  unfold resolveDefined
  rw [hc]
  split
  · rfl
  · exact serveZone_roundClosed i z s
  · rfl
  · split
    · exact raise_roundClosed .zoneDropped (setZone i { z with pending := false, dropped := true } s)
    · rfl

theorem resolveZone_roundClosed (s : State) (i : Fin 16) :
    resolveZone (roundClosed raised c d s) i = roundClosed raised c d (resolveZone s i) := by
  have hz : (roundClosed raised c d s).zones = s.zones := rfl
  unfold resolveZone
  rw [hz]
  split
  · exact resolveDefined_roundClosed i _ s
  · rfl

theorem resolutionStage_roundClosed (s : State) :
    resolutionStage (roundClosed raised c d s) = roundClosed raised c d (resolutionStage s) := by
  unfold resolutionStage
  generalize List.finRange 16 = l
  induction l generalizing s with
  | nil => rfl
  | cons i l ih => rw [List.foldl_cons, resolveZone_roundClosed, ih, List.foldl_cons]

theorem markClearing_roundClosed (s : State) :
    markClearing (roundClosed raised c d s) = roundClosed raised c d (markClearing s) := by
  simp only [markClearing, roundClosed]

/-- Round-end processing on a closed round is that on the state before, the round then closed. -/
theorem roundEndProcessing_roundClosed (s : State) :
    roundEndProcessing (roundClosed raised c d s) =
      roundClosed raised c d (markClearing (resolutionStage (expiryStage (ageingStage s)))) := by
  have hage : ageingStage (roundClosed raised c d s) = roundClosed raised c d (ageingStage s) := rfl
  rw [roundEndProcessing, hage, expiryStage_roundClosed, resolutionStage_roundClosed,
    markClearing_roundClosed]

end

/-- What follows the end of a completed ACTIVE round, its marks cleared: the next round where it is
late, and the converter released with the pins at their drive between conversions. -/
theorem startIfDue_roundClosed {s w : State} {events : EventSet}
    (hpins : idlePins (markClearing w).channels = idlePins w.channels)
    (hg : w.settings = s.settings) (hh : w.hold = s.hold) (hm : s.scan.mode = .active) :
    startIfDue (roundClosed events (scanAtEnd s) (idlePins w.channels) (markClearing w)) =
      releaseConverter
        { w with
          channels := (markClearing w).channels
          events := w.events ||| events
          scan := if decide (s.scan.roundTimer = .expired)
            then scanAtStart .active s (scanAtEnd s) else scanAtEnd s
          scanClaim := if decide (s.scan.roundTimer = .expired) then some .ref else w.scanClaim } := by
  rw [startIfDue_closed (kind := .active) (s := s) (by rfl)
    (by rw [roundClosed, markClearing_settings, hg]) (by rw [roundClosed, markClearing_hold, hh]) hm,
    ← hpins]
  simp only [markClearing, roundClosed, releaseConverter, timerOfKind]
  congr

/-- Settles O35: the four stages on the closed round, and the next round where the timer is EXPIRED. -/
theorem activeRoundEndIsResolved : Obligations.ActiveRoundEndIsResolved := by
  intro s u n r hb hk hm hlast resolved late
  obtain ⟨hscan, hclaim, hset, hhold⟩ := hlast.fields
  have hresolved : resolutionStage (expiryStage (ageingStage u)) = resolved := rfl
  have hchannels : resolved.channels = u.channels := by simp [← hresolved]
  have hclaims : resolved.scanClaim = s.scanClaim := by simp [← hresolved, hclaim]
  have hsettings : resolved.settings = s.settings := by simp [← hresolved, hset]
  have hholds : resolved.hold = s.hold := by simp [← hresolved, hhold]
  have hpins : idlePins (markClearing resolved).channels = idlePins resolved.channels := by
    rw [markClearing_channels]
    exact idlePins_congr fun i => by simp
  have hclose : closeRound .active (releaseConverter u) =
      roundClosed (overrun late) (scanAtEnd s) (idlePins u.channels) u := by
    rw [closeRound_overrun]
    simp only [timerOfKind, scanAtEnd, releaseConverter, hscan]
    rfl
  have hend : roundEndProcessing (closeRound .active (releaseConverter u)) =
      roundClosed (overrun late) (scanAtEnd s) (idlePins u.channels) (markClearing resolved) := by
    rw [hclose, roundEndProcessing_roundClosed, hresolved]
  clear_value resolved
  have he := hlast.exec_completes hb
  rw [hk] at he
  refine ⟨_, (markClearing resolved).channels, resolved.events ||| overrun late, he, fun k => ?_,
    fun e => ?_, conversionEnds_of_release ?_⟩
  · rw [markClearing_channels, Table.read_mapAt, hchannels]
    rfl
  · rw [has_or, has_overrun]
  · simp only [completeRound, passOn]
    rw [hend, ← hchannels, startIfDue_roundClosed hpins hsettings hholds hm, hclaims]

end Sys2Proof.Machine
end

section
/-! PROOFS. The sample event: the corrected count, the out-of-range samples, the touch table and what
sets a baseline (R12 to R20, R28 to R39, R137). -/

namespace Sys2Proof.Machine

/-! ### The handler that an in-range sample reaches (R15) -/

/-- The corrected count of a raw count on channel `c`. -/
def correctedOf (offset : Int) (raw : Nat) (c : Channel) : Nat :=
  correctedCount offset c.config.referenceWeight raw

/-- What the handler of a channel finds: the record after the first three steps of R15. -/
def sampled (offset : Int) (raw : Nat) (c : Channel) : ChannelDynamics :=
  takeInRange raw (correctedOf offset raw c) c.dyn

/-- The delta of a raw count on channel `c` (R15). -/
def deltaOf (offset : Int) (raw : Nat) (c : Channel) : Int :=
  (correctedOf offset raw c : Int) - (c.dyn.baseline : Int)

section
variable {g : Settings} {offset : Int} {raw : Nat} {c : Channel} (hl : 15 < raw) (hh : raw < 4080)
include hl hh

theorem sampleEvent_handler (h : c.dyn.state ≠ .off) (h' : c.dyn.state ≠ .fault) :
    sampleEvent g offset raw c =
      stateHandler c.config g (correctedOf offset raw c) (deltaOf offset raw c)
        (sampled offset raw c) := sampleEvent_inRange g offset hl hh h h'

theorem sampleEvent_calibrating (h : c.dyn.state = .calibrating) :
    sampleEvent g offset raw c =
      calibrationStep g (correctedOf offset raw c) (sampled offset raw c) := by
  rw [sampleEvent_handler hl hh (by simp [h]) (by simp [h])]
  simp [stateHandler, sampled, h]

theorem sampleEvent_quiet (h : c.dyn.state = .quiet) :
    sampleEvent g offset raw c =
      quietHandler c.config g (correctedOf offset raw c) (deltaOf offset raw c)
        (sampled offset raw c) := by
  rw [sampleEvent_handler hl hh (by simp [h]) (by simp [h])]
  simp [stateHandler, sampled, h]

theorem sampleEvent_arming (h : c.dyn.state = .arming) :
    sampleEvent g offset raw c =
      armingHandler c.config (deltaOf offset raw c) (sampled offset raw c) := by
  rw [sampleEvent_handler hl hh (by simp [h]) (by simp [h])]
  simp [stateHandler, sampled, h]

/-- The threshold test of a channel in touch: that of TOUCHED or that of RELEASING (R19, R20). -/
def thresholdTest (c : Channel) (delta : Int) : ChannelDynamics → ChannelDynamics :=
  if c.dyn.state = .touched then touchedTest c.config delta else releasingTest c.config delta

theorem sampleEvent_touch (h : c.dyn.state = .touched ∨ c.dyn.state = .releasing) :
    sampleEvent g offset raw c =
      touchHandler g (correctedOf offset raw c) (thresholdTest c (deltaOf offset raw c))
        (sampled offset raw c) := by
  obtain h | h := h <;> rw [sampleEvent_handler hl hh (by simp [h]) (by simp [h])] <;>
    simp [stateHandler, thresholdTest, sampled, h]

end

/-! ### What the handlers leave alone -/

/-- The last counts, the out-of-range count and the fault cause, which no handler writes. -/
structure SameCounts (d o : ChannelDynamics) : Prop where
  lastRaw : o.lastRaw = d.lastRaw
  lastCorrected : o.lastCorrected = d.lastCorrected
  outOfRange : o.outOfRange = d.outOfRange
  faultCause : o.faultCause = d.faultCause

/-- The baseline, its source, the last delta and the mark, which the threshold tests do not write. -/
structure SameBaseline (d o : ChannelDynamics) : Prop where
  baseline : o.baseline = d.baseline
  source : o.source = d.source
  lastDelta : o.lastDelta = d.lastDelta
  mark : o.mark = d.mark

theorem stateHandler_counts (k : ChannelConfig) (g : Settings) (corrected : Nat) (delta : Int)
    (d : ChannelDynamics) : SameCounts d (stateHandler k g corrected delta d).dyn := by
  unfold stateHandler
  split <;> constructor <;>
    grind [quietOutcome, calibrationStep, quietHandler, invertedStep, driftStep, enterTouched,
      armingHandler, enterQuiet, touchHandler, stuckRecalibration, touchedTest, releasingTest]

/-- Every in-range sample of a channel in sensing stores its counts (R15). -/
theorem sampleEvent_counts {g : Settings} {offset : Int} {raw : Nat} {c : Channel} (hl : 15 < raw)
    (hh : raw < 4080) (h : c.dyn.state ≠ .off) (h' : c.dyn.state ≠ .fault) :
    let o := (sampleEvent g offset raw c).dyn
    o.lastRaw = raw ∧ o.lastCorrected = correctedOf offset raw c ∧ o.outOfRange = 0
      ∧ o.faultCause = c.dyn.faultCause := by
  have hc := stateHandler_counts c.config g (correctedOf offset raw c) (deltaOf offset raw c)
    (sampled offset raw c)
  rw [← sampleEvent_handler hl hh h h'] at hc
  exact ⟨hc.lastRaw, hc.lastCorrected, hc.outOfRange, hc.faultCause⟩

theorem armingHandler_baseline (k : ChannelConfig) (delta : Int) (d : ChannelDynamics) :
    SameBaseline d (armingHandler k delta d).dyn := by
  constructor <;> grind [quietOutcome, enterTouched, armingHandler, enterQuiet]

theorem thresholdTest_baseline (c : Channel) (delta : Int) (d : ChannelDynamics) :
    SameBaseline d (thresholdTest c delta d) := by
  unfold thresholdTest
  split <;> constructor <;> grind [enterQuiet, touchedTest, releasingTest]

/-! ### The corrected count (R137) -/

/-- The corrected count is the clamp of the raw count less the truncated correction (R137). -/
theorem correctedCount_eq (offset : Int) (weight raw : Nat) :
    (correctedCount offset weight raw : Int) =
      (if (raw : Int) - (offset * weight).tdiv 16 < 0 then 0
        else if 4095 < (raw : Int) - (offset * weight).tdiv 16 then 4095
        else (raw : Int) - (offset * weight).tdiv 16) := by
  unfold correctedCount clampCount
  split_ifs <;> omega

/-- Settles O31: the witness is the quotient truncated toward zero. -/
theorem correctedCountTruncatesTowardZero : Obligations.CorrectedCountTruncatesTowardZero := by
  intro offset weight raw
  have hw : (0 : Int) ≤ weight := Int.natCast_nonneg weight
  refine ⟨(offset * weight).tdiv 16, ?_, fun hpos => ?_, fun hneg => ?_,
    correctedCount_eq offset weight raw, fun g c hk h h' hl hh => ?_⟩
  · exact Int.natAbs_tdiv _ _
  · by_contra hle
    have : offset * weight ≤ 0 := mul_nonpos_of_nonpos_of_nonneg (not_lt.mp hle) hw
    have := Int.tdiv_nonneg (neg_nonneg.mpr this) (by omega : (0 : Int) ≤ 16)
    rw [Int.neg_tdiv] at this
    omega
  · by_contra hle
    have := Int.tdiv_nonneg (mul_nonneg (not_lt.mp hle) hw) (by omega : (0 : Int) ≤ 16)
    omega
  · obtain ⟨_, hcorrected, _⟩ := sampleEvent_counts (g := g) (offset := offset) hl hh h h'
    rw [hcorrected, correctedOf, hk]

/-! ### Out-of-range samples (R12 to R14) -/

/-- The fault cause that an out-of-range count gives (R14). -/
def causeOf (raw : Nat) : FaultCause := if raw ≤ 15 then .low else .high

/-- An out-of-range sample of a channel in sensing (R13). -/
theorem sampleEvent_outOfRange {g : Settings} {offset : Int} {raw : Nat} {c : Channel}
    (h : c.dyn.state ≠ .off) (h' : c.dyn.state ≠ .fault) (hr : raw ≤ 15 ∨ 4080 ≤ raw) :
    sampleEvent g offset raw c = outOfRangeSample (causeOf raw) raw c.dyn := by
  rw [sampleEvent_sensing g offset raw h h', appliedSample, causeOf]
  by_cases hlow : raw ≤ 15
  · rw [rangeClass_low hlow, if_pos hlow]
  · rw [rangeClass_high (hr.resolve_left hlow), if_neg hlow]

/-- The third out-of-range sample in a row takes the channel to FAULT (R14). -/
theorem outOfRangeSample_third {d : ChannelDynamics} (cause : FaultCause) (raw : Nat)
    (h : ¬ d.outOfRange + 1 < 3) :
    outOfRangeSample cause raw d =
      { dyn := enterFault cause { d with lastRaw := raw, outOfRange := d.outOfRange + 1 }
        raised := some .channelFault } := if_pos (not_lt.mp h)

/-- An earlier one writes the last raw count and the out-of-range count (R13). -/
theorem outOfRangeSample_early {d : ChannelDynamics} (cause : FaultCause) (raw : Nat)
    (h : d.outOfRange + 1 < 3) :
    outOfRangeSample cause raw d =
      quietOutcome { d with lastRaw := raw, outOfRange := d.outOfRange + 1 } := if_neg (not_le.mpr h)

theorem outOfRangeSample_baseline (cause : FaultCause) (raw : Nat) (d : ChannelDynamics) :
    (outOfRangeSample cause raw d).dyn.baseline = d.baseline
      ∧ (outOfRangeSample cause raw d).dyn.source = d.source := by
  unfold outOfRangeSample
  dsimp only
  split <;> exact ⟨rfl, rfl⟩

/-- Settles O45: by whether the out-of-range count reaches 3. -/
theorem outOfRangeSamplesLeadToFault : Obligations.OutOfRangeSamplesLeadToFault := by
  intro s i raw c d hoff hfault hr faulted dyn
  have hsample : sampleEvent s.settings s.reference.offset raw c =
      outOfRangeSample (causeOf raw) raw d := sampleEvent_outOfRange hoff hfault hr
  have hdyn : (outOfRangeSample (causeOf raw) raw d).dyn = dyn := by
    by_cases hf : d.outOfRange + 1 < 3
    · rw [outOfRangeSample_early _ _ hf]
      simp [dyn, faulted, hf, quietOutcome]
    · rw [outOfRangeSample_third _ _ hf]
      simp [dyn, faulted, hf, enterFault, markOnLeaving_fault, causeOf]
  have hraised : ∀ e, (outOfRangeSample (causeOf raw) raw d).raised = some e ↔
      faulted ∧ e = .channelFault := by
    intro e
    by_cases hf : d.outOfRange + 1 < 3
    · rw [outOfRangeSample_early _ _ hf]
      exact iff_of_false (by simp [quietOutcome]) fun ⟨hfaulted, _⟩ => hfaulted hf
    · rw [outOfRangeSample_third _ _ hf]
      exact ⟨fun he => ⟨hf, (Option.some.inj he).symm⟩, fun ⟨_, he⟩ => by rw [he]⟩
  refine ⟨(applySample i raw s).events, fun e => ?_, ?_⟩
  · rw [has_applySample, hsample]
    simp only [hraised]
  · rw [← hdyn, ← hsample]
    exact applySample_eq i raw s

/-! ### The touch table (R16 to R20) -/

/-- The fields the touch table speaks of, and those that every in-range sample writes. -/
def TouchRow (offset : Int) (raw : Nat) (c : Channel) (o : ChannelDynamics) (state : ChannelState)
    (count onTime : Nat) : Prop :=
  o.state = state ∧ o.debounce = count ∧ o.onTime = onTime ∧ o.mark = c.dyn.mark
    ∧ o.lastRaw = raw ∧ o.lastCorrected = correctedOf offset raw c ∧ o.outOfRange = 0

/-- A drift-eligible sample stays in QUIET (R16, R36). -/
theorem driftStep_touch (g : Settings) (corrected : Nat) (d : ChannelDynamics) :
    (driftStep g corrected d).dyn.state = d.state
      ∧ (driftStep g corrected d).dyn.debounce = d.debounce
      ∧ (driftStep g corrected d).dyn.onTime = d.onTime
      ∧ (driftStep g corrected d).dyn.mark = d.mark := by
  grind [driftStep, quietOutcome]

/-- An inverted sample stays in QUIET (R16, R38). -/
theorem invertedStep_touch (g : Settings) (corrected : Nat) (d : ChannelDynamics) :
    (invertedStep g corrected d).dyn.state = d.state
      ∧ (invertedStep g corrected d).dyn.debounce = d.debounce
      ∧ (invertedStep g corrected d).dyn.onTime = d.onTime
      ∧ (invertedStep g corrected d).dyn.mark = d.mark := by
  grind [invertedStep, quietOutcome]

section
variable {g : Settings} {offset : Int} {raw : Nat} {c : Channel} (hl : 15 < raw) (hh : raw < 4080)
include hl hh

/-- A row of the touch table is what the handler left of state, counts and mark. -/
theorem touchRow_iff (h : c.dyn.state ≠ .off) (h' : c.dyn.state ≠ .fault) (state : ChannelState)
    (count onTime : Nat) :
    TouchRow offset raw c (sampleEvent g offset raw c).dyn state count onTime ↔
      (sampleEvent g offset raw c).dyn.state = state
        ∧ (sampleEvent g offset raw c).dyn.debounce = count
        ∧ (sampleEvent g offset raw c).dyn.onTime = onTime
        ∧ (sampleEvent g offset raw c).dyn.mark = c.dyn.mark := by
  obtain ⟨hraw, hcor, hout, -⟩ := sampleEvent_counts (g := g) (offset := offset) hl hh h h'
  simp only [TouchRow, hraw, hcor, hout, and_true]

/-- The row of QUIET (R16). -/
theorem touchRow_quiet (h : c.dyn.state = .quiet) (ht : c.dyn.onTime = 0) :
    let row := TouchRow offset raw c (sampleEvent g offset raw c).dyn
    if (c.config.touchThreshold : Int) ≤ deltaOf offset raw c then
      if c.config.debounceIn ≤ 1 then row .touched 0 0 else row .arming 1 0
    else row .quiet 0 0 := by
  have hrow := touchRow_iff hl hh (g := g) (offset := offset) (by simp [h] : c.dyn.state ≠ .off)
    (by simp [h])
  simp only [hrow]
  simp only [sampleEvent_quiet hl hh h, quietHandler]
  split_ifs <;>
    simp [quietOutcome, enterTouched, invertedStep_touch, driftStep_touch, sampled, h, ht]

/-- The row of ARMING (R17). -/
theorem touchRow_arming (h : c.dyn.state = .arming) (ht : c.dyn.onTime = 0) :
    let row := TouchRow offset raw c (sampleEvent g offset raw c).dyn
    if (c.config.touchThreshold : Int) ≤ deltaOf offset raw c then
      if c.config.debounceIn ≤ c.dyn.debounce + 1 then row .touched 0 0
      else row .arming (c.dyn.debounce + 1) 0
    else row .quiet 0 0 := by
  have hrow := touchRow_iff hl hh (g := g) (offset := offset) (by simp [h] : c.dyn.state ≠ .off)
    (by simp [h])
  simp only [hrow]
  simp only [sampleEvent_arming hl hh h, armingHandler]
  have hd : (sampled offset raw c).debounce = c.dyn.debounce := by simp [sampled]
  rw [hd]
  split_ifs <;> simp [quietOutcome, enterTouched, enterQuiet, sampled, h, ht]

/-- The on-time of a channel in touch after one more sample (R18). -/
def onTimeAfter (c : Channel) : Nat := min 65535 (c.dyn.onTime + 1)

/-- The stuck test (R39). -/
def StuckTest (g : Settings) (c : Channel) : Prop := g.maxOn ≠ 0 ∧ g.maxOn ≤ onTimeAfter c

/-- A sample of a channel in touch that the stuck test does not end (R18). -/
theorem sampleEvent_unstuck (h : c.dyn.state = .touched ∨ c.dyn.state = .releasing)
    (hs : ¬ StuckTest g c) :
    sampleEvent g offset raw c =
      quietOutcome (thresholdTest c (deltaOf offset raw c)
        { sampled offset raw c with onTime := onTimeAfter c }) := by
  rw [sampleEvent_touch hl hh h, touchHandler]
  exact if_neg hs

/-- A sample of a channel in touch that the stuck test ends (R39). -/
theorem sampleEvent_stuck (h : c.dyn.state = .touched ∨ c.dyn.state = .releasing)
    (hs : StuckTest g c) :
    sampleEvent g offset raw c =
      { dyn := stuckRecalibration (correctedOf offset raw c)
          { sampled offset raw c with onTime := onTimeAfter c }
        raised := some .rebaselined } := by
  rw [sampleEvent_touch hl hh h, touchHandler]
  exact if_pos hs

/-- The row of TOUCHED (R19). -/
theorem touchRow_touched (h : c.dyn.state = .touched) (hs : ¬ StuckTest g c) :
    let row := TouchRow offset raw c (sampleEvent g offset raw c).dyn
    if deltaOf offset raw c < (c.config.releaseThreshold : Int) then
      if c.config.debounceOut ≤ 1 then row .quiet 0 0 else row .releasing 1 (onTimeAfter c)
    else row .touched 0 (onTimeAfter c) := by
  have hrow := touchRow_iff hl hh (g := g) (offset := offset) (by simp [h] : c.dyn.state ≠ .off)
    (by simp [h])
  simp only [hrow]
  simp only [sampleEvent_unstuck hl hh (.inl h) hs, thresholdTest, if_pos h, touchedTest]
  split_ifs <;> simp [quietOutcome, enterQuiet, sampled, h]

/-- The row of RELEASING (R20). -/
theorem touchRow_releasing (h : c.dyn.state = .releasing) (hs : ¬ StuckTest g c) :
    let row := TouchRow offset raw c (sampleEvent g offset raw c).dyn
    if deltaOf offset raw c < (c.config.releaseThreshold : Int) then
      if c.config.debounceOut ≤ c.dyn.debounce + 1 then row .quiet 0 0
      else row .releasing (c.dyn.debounce + 1) (onTimeAfter c)
    else row .touched 0 (onTimeAfter c) := by
  have hn : c.dyn.state ≠ .touched := by simp [h]
  have hrow := touchRow_iff hl hh (g := g) (offset := offset) (by simp [h] : c.dyn.state ≠ .off)
    (by simp [h])
  simp only [hrow]
  simp only [sampleEvent_unstuck hl hh (.inr h) hs, thresholdTest, if_neg hn, releasingTest]
  have hd : (sampled offset raw c).debounce = c.dyn.debounce := by simp [sampled]
  rw [hd]
  split_ifs <;> simp [quietOutcome, enterQuiet, sampled, h]

end

theorem not_stuckTest {g : Settings} {c : Channel}
    (h : g.maxOn = 0 ∨ min 65535 (c.dyn.onTime + 1) < g.maxOn) : ¬ StuckTest g c := by
  rintro ⟨hne, hle⟩
  exact h.elim hne fun hlt => absurd hle (not_le.mpr hlt)

/-- Settles O46: the four rows of the table. -/
theorem touchTableIsFollowed : Obligations.TouchTableIsFollowed := by
  intro g offset raw c hl hh
  exact ⟨fun h ht => touchRow_quiet hl hh h ht, fun h ht => touchRow_arming hl hh h ht,
    fun h hs => touchRow_touched hl hh h (not_stuckTest hs),
    fun h hs => touchRow_releasing hl hh h (not_stuckTest hs)⟩

/-! ### What sets a baseline (R28 to R39) -/

/-- Baseline and source as they stood. -/
def BaselineKept (d o : ChannelDynamics) : Prop := o.baseline = d.baseline ∧ o.source = d.source

/-- A channel that gets no sample, or an out-of-range one, keeps its baseline (R12, R13, R21). -/
theorem sampleEvent_baselineKept (g : Settings) (offset : Int) {raw : Nat} {c : Channel}
    (h : raw ≤ 15 ∨ 4080 ≤ raw ∨ c.dyn.state = .off ∨ c.dyn.state = .fault) :
    BaselineKept c.dyn (sampleEvent g offset raw c).dyn := by
  by_cases hs : c.dyn.state = .off ∨ c.dyn.state = .fault
  · rw [sampleEvent_none g offset raw hs]
    exact ⟨rfl, rfl⟩
  · obtain ⟨hoff, hfault⟩ := not_or.mp hs
    have hr : raw ≤ 15 ∨ 4080 ≤ raw := by
      obtain h | h | h := h
      · exact .inl h
      · exact .inr h
      · exact absurd h hs
    rw [sampleEvent_outOfRange hoff hfault hr]
    exact outOfRangeSample_baseline _ _ _

/-- A drift step is the delta kept within the drift step setting (R36). -/
theorem driftedBaseline_eq (step corrected baseline : Nat) :
    (driftedBaseline step corrected baseline : Int) =
      (baseline : Int)
        + max (-(step : Int)) (min (step : Int) ((corrected : Int) - (baseline : Int))) := by
  unfold driftedBaseline
  split <;> omega

section
variable {g : Settings} {offset : Int} {raw : Nat} {c : Channel} (hl : 15 < raw) (hh : raw < 4080)
include hl hh

/-- The completion of calibration sets the baseline to the mean, rounded down (R30). -/
theorem calibration_completes (h : c.dyn.state = .calibrating)
    (hn : g.calibrationSamples ≤ c.dyn.samplesTaken + 1) :
    let corrected := correctedOf offset raw c
    let mean := (c.dyn.accumulator + corrected) / (c.dyn.samplesTaken + 1)
    sampleEvent g offset raw c = quietOutcome
      { c.dyn with
        state := .quiet, baseline := mean, source := .calibrated
        lastRaw := raw, lastCorrected := corrected
        lastDelta := (corrected : Int) - (mean : Int), outOfRange := 0
        accumulator := 0, samplesTaken := 0, debounce := 0, onTime := 0, driftCount := 0
        invertedCount := 0 } := by
  rw [sampleEvent_calibrating hl hh h, calibrationStep]
  exact if_pos hn

/-- A calibration step before the last (R30). -/
theorem calibration_continues (h : c.dyn.state = .calibrating)
    (hn : c.dyn.samplesTaken + 1 < g.calibrationSamples) :
    let corrected := correctedOf offset raw c
    sampleEvent g offset raw c = quietOutcome
      { c.dyn with
        lastRaw := raw, lastCorrected := corrected, lastDelta := deltaOf offset raw c
        outOfRange := 0, accumulator := c.dyn.accumulator + corrected
        samplesTaken := c.dyn.samplesTaken + 1 } := by
  rw [sampleEvent_calibrating hl hh h, calibrationStep]
  exact if_neg (not_le.mpr hn)

/-- A drift-eligible sample reaches the drift step (R35, R36). -/
theorem sampleEvent_eligible (h : c.dyn.state = .quiet)
    (ht : deltaOf offset raw c < (c.config.touchThreshold : Int))
    (hi : -(g.invertedLimit : Int) < deltaOf offset raw c) :
    sampleEvent g offset raw c =
      driftStep g (correctedOf offset raw c) { sampled offset raw c with debounce := 0 } := by
  rw [sampleEvent_quiet hl hh h, quietHandler, if_neg (not_le.mpr ht), if_neg (not_le.mpr hi)]

/-- An inverted sample reaches the inverted step (R37, R38). -/
theorem sampleEvent_inverted (h : c.dyn.state = .quiet)
    (ht : deltaOf offset raw c < (c.config.touchThreshold : Int))
    (hi : deltaOf offset raw c ≤ -(g.invertedLimit : Int)) :
    sampleEvent g offset raw c =
      invertedStep g (correctedOf offset raw c) { sampled offset raw c with debounce := 0 } := by
  rw [sampleEvent_quiet hl hh h, quietHandler, if_neg (not_le.mpr ht), if_pos hi]

theorem drift_waits (h : c.dyn.state = .quiet)
    (ht : deltaOf offset raw c < (c.config.touchThreshold : Int))
    (hi : -(g.invertedLimit : Int) < deltaOf offset raw c)
    (hn : c.dyn.driftCount + 1 < g.driftInterval) :
    sampleEvent g offset raw c = quietOutcome
      { sampled offset raw c with
        debounce := 0, driftCount := c.dyn.driftCount + 1, invertedCount := 0 } := by
  rw [sampleEvent_eligible hl hh h ht hi, driftStep]
  exact if_neg (not_le.mpr hn)

/-- A drift step at a delta of 0 moves nothing (R36). -/
theorem drift_rests (h : c.dyn.state = .quiet)
    (ht : deltaOf offset raw c < (c.config.touchThreshold : Int))
    (hi : -(g.invertedLimit : Int) < deltaOf offset raw c)
    (hn : g.driftInterval ≤ c.dyn.driftCount + 1) (hz : deltaOf offset raw c = 0) :
    sampleEvent g offset raw c = quietOutcome
      { sampled offset raw c with debounce := 0, driftCount := 0, invertedCount := 0 } := by
  have heq : correctedOf offset raw c = c.dyn.baseline := by
    unfold deltaOf at hz
    omega
  rw [sampleEvent_eligible hl hh h ht hi, driftStep]
  exact (if_pos hn).trans (if_pos heq)

/-- The drift step (R36). -/
theorem drift_moves (h : c.dyn.state = .quiet)
    (ht : deltaOf offset raw c < (c.config.touchThreshold : Int))
    (hi : -(g.invertedLimit : Int) < deltaOf offset raw c)
    (hn : g.driftInterval ≤ c.dyn.driftCount + 1) (hz : deltaOf offset raw c ≠ 0) :
    let baseline := driftedBaseline g.driftStep (correctedOf offset raw c) c.dyn.baseline
    sampleEvent g offset raw c = quietOutcome
      { sampled offset raw c with
        debounce := 0, driftCount := 0, invertedCount := 0, baseline := baseline
        source := .drifted
        lastDelta := (correctedOf offset raw c : Int) - (baseline : Int) } := by
  have hne : correctedOf offset raw c ≠ c.dyn.baseline := by
    unfold deltaOf at hz
    omega
  rw [sampleEvent_eligible hl hh h ht hi, driftStep]
  exact (if_pos hn).trans (if_neg hne)

/-- What a due drift step leaves (R36). -/
theorem drift_steps (h : c.dyn.state = .quiet)
    (ht : deltaOf offset raw c < (c.config.touchThreshold : Int))
    (hi : -(g.invertedLimit : Int) < deltaOf offset raw c)
    (hn : g.driftInterval ≤ c.dyn.driftCount + 1) :
    let e := sampleEvent g offset raw c
    let o := e.dyn
    o.driftCount = 0 ∧ o.invertedCount = 0
      ∧ o.lastDelta = (correctedOf offset raw c : Int) - (o.baseline : Int) ∧ e.raised = none
      ∧ (o.baseline : Int) = (c.dyn.baseline : Int)
          + max (-(g.driftStep : Int)) (min (g.driftStep : Int) (deltaOf offset raw c))
      ∧ o.source = (if deltaOf offset raw c = 0 then c.dyn.source else .drifted) := by
  dsimp only
  by_cases hz : deltaOf offset raw c = 0
  · rw [drift_rests hl hh h ht hi hn hz, if_pos hz, hz]
    refine ⟨rfl, rfl, rfl, rfl, ?_, rfl⟩
    change (c.dyn.baseline : Int) = _
    omega
  · rw [drift_moves hl hh h ht hi hn hz, if_neg hz]
    exact ⟨rfl, rfl, rfl, rfl, driftedBaseline_eq _ _ _, rfl⟩

theorem inverted_waits (h : c.dyn.state = .quiet)
    (ht : deltaOf offset raw c < (c.config.touchThreshold : Int))
    (hi : deltaOf offset raw c ≤ -(g.invertedLimit : Int))
    (hn : c.dyn.invertedCount + 1 < g.invertedRounds) :
    sampleEvent g offset raw c = quietOutcome
      { sampled offset raw c with debounce := 0, invertedCount := c.dyn.invertedCount + 1 } := by
  rw [sampleEvent_inverted hl hh h ht hi, invertedStep]
  exact if_neg (not_le.mpr hn)

/-- The inverted re-baseline (R38). -/
theorem inverted_rebaselines (h : c.dyn.state = .quiet)
    (ht : deltaOf offset raw c < (c.config.touchThreshold : Int))
    (hi : deltaOf offset raw c ≤ -(g.invertedLimit : Int))
    (hn : g.invertedRounds ≤ c.dyn.invertedCount + 1) :
    sampleEvent g offset raw c =
      { dyn :=
          { sampled offset raw c with
            debounce := 0, baseline := correctedOf offset raw c, source := .inverted
            lastDelta := 0, invertedCount := 0, driftCount := 0 }
        raised := some .rebaselined } := by
  rw [sampleEvent_inverted hl hh h ht hi, invertedStep]
  exact if_pos hn

/-- Stuck recalibration (R39). -/
theorem stuck_rebaselines (h : c.dyn.state = .touched ∨ c.dyn.state = .releasing)
    (hs : StuckTest g c) :
    sampleEvent g offset raw c =
      { dyn :=
          { c.dyn with
            state := .quiet, baseline := correctedOf offset raw c, source := .stuck
            lastRaw := raw, lastCorrected := correctedOf offset raw c, lastDelta := 0
            outOfRange := 0, debounce := 0, onTime := 0, driftCount := 0, invertedCount := 0
            mark := if c.dyn.mark = .fault then .fault else .stuck }
        raised := some .rebaselined } := by
  have hm : markOnLeaving { sampled offset raw c with onTime := onTimeAfter c } .stuck =
      if c.dyn.mark = .fault then .fault else .stuck :=
    (markOnLeaving_stuck _).trans (if_pos h)
  rw [sampleEvent_stuck hl hh h hs, stuckRecalibration, hm]
  rfl

theorem quiet_touch_baseline (h : c.dyn.state = .quiet)
    (ht : (c.config.touchThreshold : Int) ≤ deltaOf offset raw c) :
    SameBaseline (sampled offset raw c) (sampleEvent g offset raw c).dyn := by
  rw [sampleEvent_quiet hl hh h, quietHandler, if_pos ht]
  split <;> exact ⟨rfl, rfl, rfl, rfl⟩

theorem arming_baseline (h : c.dyn.state = .arming) :
    SameBaseline (sampled offset raw c) (sampleEvent g offset raw c).dyn := by
  rw [sampleEvent_arming hl hh h]
  exact armingHandler_baseline _ _ _

theorem touch_baseline (h : c.dyn.state = .touched ∨ c.dyn.state = .releasing)
    (hs : ¬ StuckTest g c) :
    SameBaseline (sampled offset raw c) (sampleEvent g offset raw c).dyn := by
  rw [sampleEvent_unstuck hl hh h hs]
  obtain ⟨hb, hsrc, hd, hm⟩ := thresholdTest_baseline c (deltaOf offset raw c)
    { sampled offset raw c with onTime := onTimeAfter c }
  exact ⟨hb, hsrc, hd, hm⟩

/-- No sample but that of stuck recalibration sets a leave mark (R23, R39). -/
theorem sampleEvent_mark (h : c.dyn.state ≠ .off) (h' : c.dyn.state ≠ .fault)
    (hs : ¬ ((c.dyn.state = .touched ∨ c.dyn.state = .releasing) ∧ StuckTest g c)) :
    (sampleEvent g offset raw c).dyn.mark = c.dyn.mark := by
  cases hst : c.dyn.state with
  | off => exact absurd hst h
  | fault => exact absurd hst h'
  | calibrating =>
    rw [sampleEvent_calibrating hl hh hst]
    grind [calibrationStep, quietOutcome, sampled, takeInRange]
  | quiet =>
    rw [sampleEvent_quiet hl hh hst]
    grind [quietHandler, quietOutcome, enterTouched, invertedStep_touch, driftStep_touch, sampled,
      takeInRange]
  | arming => exact (arming_baseline hl hh hst).mark
  | touched => exact (touch_baseline hl hh (.inl hst) fun h => hs ⟨.inl hst, h⟩).mark
  | releasing => exact (touch_baseline hl hh (.inr hst) fun h => hs ⟨.inr hst, h⟩).mark

end

/-! ### What the commands leave of a channel's baseline and last counts (R29) -/

/-- Baseline, source, last counts and last delta as they stood. -/
structure SameTracking (d d' : ChannelDynamics) : Prop where
  baseline : d'.baseline = d.baseline
  source : d'.source = d.source
  lastRaw : d'.lastRaw = d.lastRaw
  lastCorrected : d'.lastCorrected = d.lastCorrected
  lastDelta : d'.lastDelta = d.lastDelta

theorem SameTracking.refl (d : ChannelDynamics) : SameTracking d d := ⟨rfl, rfl, rfl, rfl, rfl⟩

theorem SameTracking.trans {d d' d'' : ChannelDynamics} (h : SameTracking d d')
    (h' : SameTracking d' d'') : SameTracking d d'' :=
  ⟨h'.baseline.trans h.baseline, h'.source.trans h.source, h'.lastRaw.trans h.lastRaw,
    h'.lastCorrected.trans h.lastCorrected, h'.lastDelta.trans h.lastDelta⟩

theorem sameTracking_startCalibration (d : ChannelDynamics) :
    SameTracking d (startCalibration d) := ⟨rfl, rfl, rfl, rfl, rfl⟩

theorem sameTracking_reconfigure (f : ChannelOperands) (c : Channel) :
    SameTracking c.dyn (reconfigure f c).dyn := by
  unfold reconfigure
  dsimp only
  split
  · exact sameTracking_startCalibration c.dyn
  · exact .refl _

theorem sameTracking_calibrateChannel (mask : BitVec 32) (i : Fin 32) (c : Channel) :
    SameTracking c.dyn (calibrateChannel mask i c).dyn := by
  unfold calibrateChannel
  split
  · exact sameTracking_startCalibration c.dyn
  · exact .refl _

theorem sameTracking_quietUnwatched (c : Channel) : SameTracking c.dyn (quietUnwatched c).dyn := by
  unfold quietUnwatched
  split
  · exact ⟨rfl, rfl, rfl, rfl, rfl⟩
  · exact .refl _

theorem sameTracking_clearMark (c : Channel) : SameTracking c.dyn (clearMark c).dyn :=
  ⟨rfl, rfl, rfl, rfl, rfl⟩

/-- The dynamic fields of channel `i`. -/
def dynOf (i : Fin 32) (s : State) : ChannelDynamics := (Table.read s.channels i).dyn

theorem SameTables.dynOf {s t : State} (h : SameTables s t) (i : Fin 32) : dynOf i t = dynOf i s := by
  rw [Machine.dynOf, Machine.dynOf, h.channels]

/-- A channel count that becomes a sample event on channel `i` (R112). -/
def SampleTaken (s : State) (a : Instr) (i : Fin 32) : Prop :=
  ∃ n cv, a = .conversionComplete n ∧ s.converter = some cv ∧ cv.claimant = .scan
    ∧ cv.target = .channel i ∧ cv.held = false ∧ cv.roleLost = false

/-- The commands that can clear the record of channel `i`: a role change and the resets. -/
def Clears (a : Instr) (i : Fin 32) : Prop :=
  (∃ role, a = .setRole (BitVec.ofNat 8 i.val) role) ∨ a = .resetFull ∨ a = .resetScan
    ∨ a = .rstnLow ∨ (∃ b, a = .rstnRise b) ∨ ∃ b, a = .startUpComplete b

/-- What a command can leave of the baseline and the last counts of channel `i`: as they stood, written
by a sample event, or cleared. -/
inductive Tracking (s : State) (a : Instr) (i : Fin 32) (t : State) : Prop
  | kept (h : SameTracking (dynOf i s) (dynOf i t))
  | taken (h : SampleTaken s a i)
  | cleared (hc : Clears a i) (state : ChannelState) (h : dynOf i t = .cleared state)

theorem SampleEffect.tracking {s u : State} {n : BitVec 12} (h : SampleEffect n.toNat s u)
    (i : Fin 32) :
    SameTracking (dynOf i s) (dynOf i u) ∨ SampleTaken s (.conversionComplete n) i := by
  cases h with
  | none => exact .inl (.refl _)
  | @taken cv j hc hs hi hh hr =>
    by_cases hij : j = i
    · exact .inr ⟨n, cv, rfl, hc, hs, hij ▸ hi, hh, hr⟩
    · refine .inl ?_
      simp only [dynOf, applySample_fields, Table.read_write_other _ hij]
      exact .refl _

theorem RoundEffect.tracking {s u t : State} (h : RoundEffect s u t) (i : Fin 32) :
    SameTracking (dynOf i u) (dynOf i t) := by
  cases h with
  | none h => exact h.dynOf i ▸ .refl _
  | @ended r v hr hk hv ht =>
    rw [ht.dynOf i, ← hv.dynOf i]
    simp only [dynOf, roundEndProcessing_fields, Table.read_mapAt]
    exact sameTracking_clearMark _
  | quieted h =>
    rw [h.dynOf i]
    simp only [dynOf, quietChannels_fields, Table.read_mapAt]
    exact sameTracking_quietUnwatched _

/-- Every effect on the tables leaves the baseline and the last counts, or samples or clears them. -/
theorem TableEffect.tracking {s t : State} {a : Instr} (h : TableEffect s a t) (i : Fin 32) :
    Tracking s a i t := by
  cases h with
  | same h => exact .kept (h.dynOf i ▸ .refl _)
  | fullReset slot hc h =>
    refine .cleared (.inr ?_) .off ?_
    · obtain hc | hc | hc | hc := hc
      · exact .inl hc
      · exact .inr (.inr (.inl hc))
      · exact .inr (.inr (.inr (.inl hc)))
      · exact .inr (.inr (.inr (.inr hc)))
    · rw [h.dynOf i, dynOf, fullResetBlocks, Table.read_const]
      rfl
  | scanReset h =>
    refine .cleared (.inr (.inr (.inl rfl)))
      (if (Table.read s.channels i).config.role = .sense then .calibrating else .off) ?_
    rw [h.dynOf i, dynOf, scanResetBlocks, Table.read_mapAt]
    rfl
  | resetStands h => exact .kept (h.dynOf i ▸ .refl _)
  | settings hv h => exact .kept (h.dynOf i ▸ .refl _)
  | @channel b j f _ hj hf h =>
    refine .kept ?_
    rw [h.dynOf i]
    by_cases hij : j = i
    · simp only [dynOf, hij, Table.read_write_same]
      exact sameTracking_reconfigure f _
    · simp only [dynOf, Table.read_write_other _ hij]
      exact .refl _
  | @role b code j r _ hj hm h =>
    by_cases hij : j = i
    · obtain ⟨hr, hr', hchange⟩ | ⟨hne, hchange⟩ := changeRole_cases r (Table.read s.channels j)
      · refine .kept ?_
        rw [h.dynOf i, hchange]
        simp only [dynOf, Table.write_read]
        exact .refl _
      · refine .cleared (.inl ⟨code, ?_⟩) (if r = .sense then .calibrating else .off) ?_
        · rw [channelOf_eq_some.mp hj, hij]
        · rw [h.dynOf i, hchange]
          simp only [dynOf, hij, Table.read_write_same]
    · refine .kept ?_
      rw [h.dynOf i]
      simp only [dynOf, Table.read_write_other _ hij]
      exact .refl _
  | @calibrate mask flag _ h =>
    refine .kept ?_
    rw [h.dynOf i]
    simp only [dynOf, Table.read_mapAt]
    exact sameTracking_calibrateChannel mask i _
  | defineZone ho hr h => exact .kept (h.dynOf i ▸ .refl _)
  | deleteZone hz h => exact .kept (h.dynOf i ▸ .refl _)
  | acknowledge h => exact .kept (h.dynOf i ▸ .refl _)
  | quieted h =>
    refine .kept ?_
    rw [h.dynOf i]
    simp only [dynOf, quietChannels_fields, Table.read_mapAt]
    exact sameTracking_quietUnwatched _
  | completed hu ht =>
    obtain hkept | htaken := hu.tracking i
    · exact .kept (hkept.trans (ht.tracking i))
    · exact .taken htaken

/-- Every command leaves the baseline and the last counts, or samples or clears them (R29). -/
theorem exec_tracking {a : Instr} {s t : State} (h : exec a s = .next t) (i : Fin 32) :
    Tracking s a i t := by
  obtain ⟨b, hb⟩ := exec_tables h
  cases hb.tracking i with
  | kept h => exact .kept h
  | taken h => exact .taken h
  | cleared hc state h => exact .cleared hc state h

/-- Settles O47: the mechanisms one by one, and then every command by its effect on the tables. -/
theorem baselineMechanisms : Obligations.BaselineMechanisms := by
  refine ⟨fun g offset raw c => ?_, fun a s t i h => ?_⟩
  · intro d corrected delta mean e o quietUntouched eligible inverted stuck kept
    refine ⟨fun h => sampleEvent_baselineKept g offset h, fun hl hh => ⟨?counts, ?_, ?_, ?_, ?_, ?_,
      ?_, ?_, ?_, ?_, ?_⟩⟩
    case counts =>
      intro h h'
      obtain ⟨hraw, hcor, hout, hcause⟩ := sampleEvent_counts (g := g) (offset := offset) hl hh h h'
      exact ⟨hraw, hcor, hout, hcause, fun hs => sampleEvent_mark hl hh h h' hs⟩
    · intro h hn
      have he : e = _ := calibration_completes hl hh h hn
      exact ⟨congrArg SampleOutcome.raised he, congrArg SampleOutcome.dyn he⟩
    · intro h hn
      have he : e = _ := calibration_continues hl hh h hn
      exact ⟨congrArg SampleOutcome.raised he, congrArg SampleOutcome.dyn he⟩
    · rintro ⟨⟨h, ht⟩, hi⟩ hn
      have he : e = _ := drift_waits hl hh h ht hi hn
      rw [show o = _ from congrArg SampleOutcome.dyn he]
      exact ⟨rfl, rfl, rfl, rfl, rfl, congrArg SampleOutcome.raised he⟩
    · rintro ⟨⟨h, ht⟩, hi⟩ hn
      exact drift_steps hl hh h ht hi hn
    · rintro ⟨⟨h, ht⟩, hi⟩ hn
      have he : e = _ := inverted_waits hl hh h ht hi hn
      rw [show o = _ from congrArg SampleOutcome.dyn he]
      exact ⟨rfl, rfl, rfl, rfl, rfl, congrArg SampleOutcome.raised he⟩
    · rintro ⟨⟨h, ht⟩, hi⟩ hn
      have he : e = _ := inverted_rebaselines hl hh h ht hi hn
      rw [show o = _ from congrArg SampleOutcome.dyn he]
      exact ⟨rfl, rfl, rfl, rfl, rfl, h, congrArg SampleOutcome.raised he⟩
    · rintro ⟨h, hs⟩
      have he : e = _ := stuck_rebaselines hl hh h hs
      exact ⟨congrArg SampleOutcome.raised he, congrArg SampleOutcome.dyn he⟩
    · intro h ht
      obtain ⟨hb, hsrc, hd, -⟩ := quiet_touch_baseline hl hh h ht (g := g)
      exact ⟨⟨hb, hsrc⟩, hd⟩
    · intro h
      obtain ⟨hb, hsrc, hd, -⟩ := arming_baseline hl hh h (g := g) (offset := offset)
      exact ⟨⟨hb, hsrc⟩, hd⟩
    · intro h hs
      obtain ⟨hb, hsrc, hd, -⟩ := touch_baseline hl hh h (g := g) (offset := offset)
        fun hstuck => hs ⟨h, hstuck⟩
      exact ⟨⟨hb, hsrc⟩, hd⟩
  · cases exec_tracking h i with
    | kept h => exact .inl ⟨h.baseline, h.source, h.lastRaw, h.lastCorrected, h.lastDelta⟩
    | taken h => exact .inr (.inl h)
    | cleared hc state h =>
      refine .inr (.inr ?_)
      change (dynOf i t).baseline = 0 ∧ (dynOf i t).source = .none ∧ (dynOf i t).lastRaw = 0
        ∧ (dynOf i t).lastCorrected = 0 ∧ (dynOf i t).lastDelta = 0 ∧ Clears a i
      rw [h]
      exact ⟨rfl, rfl, rfl, rfl, rfl, hc⟩

end Sys2Proof.Machine
end

section
/-! PROOFS. What a zone reads from its members, and its resolution (R53 to R60, R77 to R82). -/

namespace Sys2Proof.Machine

/-! ### The peak and the three-point sum (R55) -/

/-- No place before the peak holds a largest contribution (R55). -/
theorem lt_strengthOf_of_mem_take_peakOf {d : List Nat} {m : Nat} (h : m ∈ d.take (peakOf d)) :
    m < strengthOf d := by
  refine lt_of_le_of_ne (le_strengthOf (List.mem_of_mem_take h)) fun he => ?_
  have hlt := (List.mem_take_iff_idxOf_lt (List.mem_of_mem_take h)).mp h
  rw [he] at hlt
  exact lt_irrefl _ hlt

/-- A contribution that no other exceeds is the strength (R54). -/
theorem strengthOf_eq {d : List Nat} {x : Nat} (hx : x ∈ d) (h : ∀ y ∈ d, y ≤ x) :
    strengthOf d = x :=
  le_antisymm (h _ (strengthOf_mem (List.ne_nil_of_mem hx))) (le_strengthOf hx)

theorem getD_eq_zero {d : List Nat} (hall : ∀ x ∈ d, x = 0) (k : Nat) : d.getD k 0 = 0 := by
  by_cases hk : k < d.length
  · rw [List.getD_eq_getElem _ _ hk]
    exact hall _ (List.getElem_mem hk)
  · exact List.getD_eq_default _ _ (not_lt.mp hk)

/-- The three-point sum of an untouched list is 0 (R58). -/
theorem threePointSum_eq_zero (kind : ZoneKind) {d : List Nat} (hall : ∀ x ∈ d, x = 0) :
    threePointSum kind d = 0 := by
  cases kind <;> simp only [threePointSum, before, after, getD_eq_zero hall, ite_self, add_zero]

/-- With a contribution other than 0 the three-point sum is not 0 (R58). -/
theorem threePointSum_ne_zero (kind : ZoneKind) {d : List Nat} (h : ∃ x ∈ d, x ≠ 0) :
    threePointSum kind d ≠ 0 := by
  obtain ⟨x, hx, hne⟩ := h
  have hpeak := (peakOf_spec (List.ne_nil_of_mem hx)).2
  have hle := le_strengthOf hx
  unfold threePointSum
  omega

/-! ### The position (R55 to R57) -/

/-- A fraction between 0 and a whole number rounds into the same bounds. -/
theorem roundHalfUp_bounds {num m : Int} {den : Nat} (h : 0 < den) (h0 : 0 ≤ num)
    (hm : num ≤ m * den) : 0 ≤ roundHalfUp num den ∧ roundHalfUp num den ≤ m := by
  obtain ⟨hlow, hhigh⟩ := roundHalfUp_spec num h
  have hd : (0 : Int) < den := by omega
  constructor <;> by_contra hn <;> nlinarith

/-- On a slider the peak and its neighbours lie on the scale: the clamp does not act (R56). -/
theorem scaledPeak_slider_bounds {d : List Nat} (hn : 2 ≤ d.length) :
    0 ≤ scaledPeak .slider d
      ∧ scaledPeak .slider d ≤ (threePointSum .slider d * (d.length - 1) : Nat) := by
  have hlt : peakOf d < d.length := (peakOf_spec (List.ne_nil_of_length_pos (by omega))).1
  have hsum : threePointSum .slider d =
      before .slider d (peakOf d) + d.getD (peakOf d) 0 + after .slider d (peakOf d) := rfl
  have hfirst : peakOf d = 0 → before .slider d (peakOf d) = 0 := fun h => by simp [before, h]
  have hlast : peakOf d + 1 = d.length → after .slider d (peakOf d) = 0 := fun h => by
    simp [after, h]
  unfold scaledPeak
  generalize threePointSum .slider d = sum at *
  generalize before .slider d (peakOf d) = prev at *
  generalize after .slider d (peakOf d) = next at *
  generalize peakOf d = k at *
  constructor
  · obtain hk | hk := Nat.eq_zero_or_pos k
    · have := hfirst hk
      subst hk
      omega
    · have : sum ≤ k * sum := Nat.le_mul_of_pos_left sum hk
      omega
  · obtain hk | hk := Nat.lt_or_eq_of_le (Nat.succ_le_of_lt hlt)
    · have : sum * (k + 1) ≤ sum * (d.length - 1) := Nat.mul_le_mul_left sum (by omega)
      have : sum * (k + 1) = k * sum + sum := by ring
      omega
    · have := hlast hk
      have : sum * (d.length - 1) = k * sum := by
        rw [← hk, Nat.succ_sub_one, Nat.mul_comm]
      omega

/-- A slider's position is the rounded fraction itself (R56). -/
theorem sliderPosition_eq {d : List Nat} (hn : 2 ≤ d.length) (hs : threePointSum .slider d ≠ 0) :
    (sliderPosition d : Int) =
        roundHalfUp (1023 * scaledPeak .slider d) (threePointSum .slider d * (d.length - 1))
      ∧ sliderPosition d ≤ 1023 := by
  obtain ⟨hlow, hhigh⟩ := scaledPeak_slider_bounds hn
  have hden : 0 < threePointSum .slider d * (d.length - 1) :=
    Nat.mul_pos (Nat.pos_of_ne_zero hs) (by omega)
  obtain ⟨h0, hm⟩ := roundHalfUp_bounds (num := 1023 * scaledPeak .slider d) (m := 1023) hden
    (by omega) (by omega)
  unfold sliderPosition
  omega

/-- A wheel's position is the rounded fraction without its whole turns (R57). -/
theorem wheelPosition_eq (d : List Nat) :
    (wheelPosition d : Int) + 1024
        * (roundHalfUp (1024 * scaledPeak .wheel d) (threePointSum .wheel d * d.length) / 1024) =
        roundHalfUp (1024 * scaledPeak .wheel d) (threePointSum .wheel d * d.length)
      ∧ wheelPosition d ≤ 1023 := by
  unfold wheelPosition
  omega

/-- A whole number rounds to itself. -/
theorem roundHalfUp_mul (m : Int) {den : Nat} (h : 0 < den) : roundHalfUp (m * den) den = m := by
  obtain ⟨hlow, hhigh⟩ := roundHalfUp_spec (m * den) h
  have hd : (0 : Int) < den := by omega
  apply le_antisymm <;> by_contra hn <;> nlinarith

/-- A slider's position where the peak alone holds a whole step of the scale. -/
theorem sliderPosition_of_scaledPeak {d : List Nat} {p : Nat} (hn : 2 ≤ d.length)
    (hs : threePointSum .slider d ≠ 0)
    (h : 1023 * scaledPeak .slider d =
      (p : Int) * (threePointSum .slider d * (d.length - 1) : Nat)) : sliderPosition d = p := by
  have hden : 0 < threePointSum .slider d * (d.length - 1) :=
    Nat.mul_pos (Nat.pos_of_ne_zero hs) (by omega)
  have hpos := (sliderPosition_eq hn hs).1
  rw [h, roundHalfUp_mul _ hden] at hpos
  omega

/-- A slider's finger on its first member alone is at 0. -/
theorem sliderPosition_first {n x : Nat} (hn : 1 ≤ n) (hx : 0 < x) :
    sliderPosition (x :: List.replicate n 0) = 0 := by
  have hstrength : strengthOf (x :: List.replicate n 0) = x :=
    strengthOf_eq List.mem_cons_self (by simp)
  have hpeak : peakOf (x :: List.replicate n 0) = 0 := by
    rw [peakOf, hstrength, List.idxOf_cons_self]
  have hafter : after .slider (x :: List.replicate n 0) 0 = 0 := by
    simp only [after, List.getD_cons_succ]
    exact getD_eq_zero (fun y hy => List.eq_of_mem_replicate hy) 0
  have hscaled : scaledPeak .slider (x :: List.replicate n 0) = 0 := by
    simp [scaledPeak, hpeak, hafter, before]
  refine sliderPosition_of_scaledPeak (by simpa using hn)
    (threePointSum_ne_zero .slider ⟨x, List.mem_cons_self, by omega⟩) ?_
  rw [hscaled]
  simp

/-- A slider's finger on its last member alone is at 1023. -/
theorem sliderPosition_last {n x : Nat} (hn : 1 ≤ n) (hx : 0 < x) :
    sliderPosition (List.replicate n 0 ++ [x]) = 1023 := by
  have hmem : x ∈ List.replicate n 0 ++ [x] := by simp
  have hstrength : strengthOf (List.replicate n 0 ++ [x]) = x :=
    strengthOf_eq hmem fun y hy => by
      obtain hy | hy := List.mem_append.mp hy
      · rw [List.eq_of_mem_replicate hy]
        omega
      · rw [List.mem_singleton.mp hy]
  have hnot : x ∉ List.replicate n 0 := fun h => by
    have := List.eq_of_mem_replicate h
    omega
  have hpeak : peakOf (List.replicate n 0 ++ [x]) = n := by
    rw [peakOf, hstrength, List.idxOf_append_of_notMem hnot, List.idxOf_cons_self,
      List.length_replicate, add_zero]
  have hbefore : before .slider (List.replicate n 0 ++ [x]) n = 0 := by
    rw [before, List.getD_append _ _ _ _ (by simp; omega),
      getD_eq_zero (fun y hy => List.eq_of_mem_replicate hy), ite_self]
  have hafter : after .slider (List.replicate n 0 ++ [x]) n = 0 := by simp [after]
  have hhere : (List.replicate n 0 ++ [x]).getD n 0 = x := by simp
  have hsum : threePointSum .slider (List.replicate n 0 ++ [x]) = x := by
    rw [threePointSum, hpeak, hbefore, hafter, hhere, zero_add, add_zero]
  have hscaled : scaledPeak .slider (List.replicate n 0 ++ [x]) = (n * x : Nat) := by
    rw [scaledPeak, hpeak, hsum, hbefore, hafter]
    simp
  refine sliderPosition_of_scaledPeak (by simpa using hn) (by rw [hsum]; omega) ?_
  rw [hscaled, hsum, List.length_append, List.length_replicate, List.length_singleton,
    Nat.add_sub_cancel, Nat.mul_comm n x]
  rfl

/-! ### Contributions (R54) and the position of a zone (R58) -/

theorem contribution_eq (c : Channel) :
    contribution c =
      if c.dyn.state = .quiet ∨ c.dyn.state = .arming ∨ c.dyn.state = .touched
        ∨ c.dyn.state = .releasing then
        (if 0 < c.dyn.lastDelta then c.dyn.lastDelta.toNat else 0)
      else 0 := by
  have hclip : c.dyn.lastDelta.toNat = if 0 < c.dyn.lastDelta then c.dyn.lastDelta.toNat else 0 := by
    split <;> omega
  rw [← hclip]
  cases h : c.dyn.state <;> simp [contribution, h]

/-- The place before `k` as R55 words it. -/
theorem before_eq {kind : ZoneKind} (h : kind ≠ .button) (d : List Nat) (k : Nat) :
    (before kind d k : Int) =
      if kind = .wheel then (d.getD ((k + d.length - 1) % d.length) 0 : Int)
      else if k = 0 then 0 else (d.getD (k - 1) 0 : Int) := by
  cases kind with
  | button => exact absurd rfl h
  | slider =>
    by_cases hk : k = 0
    · simp [before, hk]
    · simp [before, hk]
  | wheel => simp [before]

/-- The place after `k` as R55 words it. -/
theorem after_eq {kind : ZoneKind} (h : kind ≠ .button) (d : List Nat) (k : Nat) :
    (after kind d k : Int) =
      if kind = .wheel then (d.getD ((k + 1) % d.length) 0 : Int)
      else (d.getD (k + 1) 0 : Int) := by
  cases kind with
  | button => exact absurd rfl h
  | slider => simp [after]
  | wheel => simp [after]

/-- Settles O48: the two positions are a rounded fraction, and the rest reads the definitions. -/
theorem positionsFollowTheFormula : Obligations.PositionsFollowTheFormula := by
  refine ⟨fun kind d hkind hn hs => ?_,
    fun n x hn hx => ⟨sliderPosition_first hn hx, sliderPosition_last hn hx⟩,
    fun channels z => List.map_congr_left fun m _ => contribution_eq _,
    fun d hd => ⟨strengthOf_mem hd, fun x hx => le_strengthOf hx⟩,
    fun d previous hd => ⟨rfl, fun hall => ?_, fun hex => ?_⟩⟩
  · intro k n here prev next sum
    obtain ⟨hlt, hpeak⟩ := peakOf_spec (List.ne_nil_of_length_pos (by omega) : d ≠ [])
    have hhere : here = (strengthOf d : Int) := congrArg Nat.cast hpeak
    have hprev : (before kind d k : Int) = prev := before_eq hkind d k
    have hnext : (after kind d k : Int) = next := after_eq hkind d k
    have hsum : (threePointSum kind d : Int) = sum := by
      rw [threePointSum]
      push_cast
      rw [hprev, hnext]
    have hscaled : scaledPeak kind d = k * sum + (next - prev) := by
      rw [scaledPeak, Nat.cast_mul, hsum, hprev, hnext]
    refine ⟨hlt, fun m hm => ?_, fun m hm => ?_, ?_, ?_⟩
    · have := le_strengthOf hm
      omega
    · have := lt_strengthOf_of_mem_take_peakOf hm
      omega
    · rintro rfl
      obtain ⟨hpos, hp⟩ := sliderPosition_eq hn hs
      have hden : 0 < threePointSum .slider d * (d.length - 1) :=
        Nat.mul_pos (Nat.pos_of_ne_zero hs) (by omega)
      have hspec := roundHalfUp_spec (1023 * scaledPeak .slider d) hden
      rw [← hpos, hscaled, Nat.cast_mul, hsum, Nat.cast_pred (by omega)] at hspec
      exact ⟨sliderPosition d, rfl, hp, hspec⟩
    · rintro rfl
      obtain ⟨hpos, hp⟩ := wheelPosition_eq d
      have hden : 0 < threePointSum .wheel d * d.length :=
        Nat.mul_pos (Nat.pos_of_ne_zero hs) (by omega)
      have hspec := roundHalfUp_spec (1024 * scaledPeak .wheel d) hden
      rw [← hpos, hscaled, Nat.cast_mul, hsum] at hspec
      exact ⟨wheelPosition d, _, rfl, hp, hspec⟩
  · simp [zonePosition, threePointSum_eq_zero _ hall]
  · have hslider := threePointSum_ne_zero .slider hex
    have hwheel := threePointSum_ne_zero .wheel hex
    simp [zonePosition, hslider, hwheel]

/-! ### The resolution of one zone (R77 to R82) -/

theorem zoneTouched_eq_false_iff (channels : Vector Channel 32) (z : Zone) :
    zoneTouched channels z = false ↔
      ¬ ∃ m ∈ z.members, (Table.read channels m).dyn.state = .touched
        ∨ (Table.read channels m).dyn.state = .releasing := by
  rw [← zoneTouched_iff, Bool.not_eq_true]

/-- A FREE zone is not resolved (R60). -/
theorem resolveZone_free {s : State} {i : Fin 16} (h : Table.read s.zones i = none) :
    resolveZone s i = s := by
  rw [resolveZone, h]

theorem resolveZone_defined {s : State} {i : Fin 16} {z : Zone} (h : Table.read s.zones i = some z) :
    resolveZone s i = resolveDefined i z s := by
  rw [resolveZone, h]

section
variable {s : State} {i : Fin 16} {z : Zone}

/-- A touched zone updates its current contact (R78). -/
theorem resolveDefined_update {id : Nat} (ht : zoneTouched s.channels z = true)
    (hc : z.current = some id) :
    resolveDefined i z s =
      { s with contacts := updateContact id (updateByZone s.channels z) s.contacts } := by
  rw [resolveDefined, ht, hc]

/-- A touched zone without a contact is served (R79, R80). -/
theorem resolveDefined_serve (ht : zoneTouched s.channels z = true) (hc : z.current = none) :
    resolveDefined i z s = serveZone i z s := by
  rw [resolveDefined, ht, hc]

/-- An untouched zone lifts its current contact (R81). -/
theorem resolveDefined_lift {id : Nat} (ht : zoneTouched s.channels z = false)
    (hc : z.current = some id) : resolveDefined i z s = liftZone i z id s := by
  rw [resolveDefined, ht, hc]

/-- An untouched pending zone drops its touch (R82). -/
theorem resolveDefined_drop (ht : zoneTouched s.channels z = false) (hc : z.current = none)
    (hp : z.pending = true) : resolveDefined i z s = dropZone i z s := by
  rw [resolveDefined, ht, hc]
  exact if_pos hp

/-- Nothing happens to any other zone (R77). -/
theorem resolveDefined_rest (ht : zoneTouched s.channels z = false) (hc : z.current = none)
    (hp : z.pending = false) : resolveDefined i z s = s := by
  rw [resolveDefined, ht, hc]
  exact if_neg (by simp [hp])

end

/-- The lift cause that a zone's members give (R60, R81). -/
theorem liftCauseOf_leaveSummary (channels : Vector Channel 32) (z : Zone) :
    let mark := fun (k : LeaveMark) => ∃ m ∈ z.members, (Table.read channels m).dyn.mark = k
    liftCauseOf (leaveSummary channels z) =
      if mark .fault then .fault else if mark .stuck then .stuck
        else if mark .recalibrated then .recalibrated else .released := by
  rw [leaveSummary_eq]
  dsimp only
  split_ifs <;> rfl

/-- Settles O49: the cases of R77 by touch, current contact and the pending flag. -/
theorem zoneResolutionCases : Obligations.ZoneResolutionCases := by
  refine ⟨fun s i h => resolveZone_free h, fun s i z hz => ?_⟩
  intro touched mark d t
  have ht : t = resolveDefined i z s := resolveZone_defined hz
  have htouched : touched → zoneTouched s.channels z = true := (zoneTouched_iff _ _).mpr
  have huntouched : ¬ touched → zoneTouched s.channels z = false := (zoneTouched_eq_false_iff _ _).mpr
  rw [ht]
  refine ⟨fun id h hc => ?update, fun h hc hn => ?create, fun h hc hn => ?pend, fun id h hc => ?lift,
    fun h hc hp => ?drop, fun h hc hp => ?rest⟩
  case update => exact resolveDefined_update (htouched h) hc
  case create =>
    refine ⟨_, _, rfl, rfl, ?_⟩
    rw [resolveDefined_serve (htouched h) hc, serveZone, if_pos hn]
    rfl
  case pend =>
    rw [resolveDefined_serve (htouched h) hc, serveZone, if_neg (not_lt.mpr hn)]
    rfl
  case lift =>
    rw [resolveDefined_lift (huntouched h) hc, liftZone, liftCauseOf_leaveSummary]
    rfl
  case drop =>
    rw [resolveDefined_drop (huntouched h) hc hp]
    exact ⟨fun e => has_raise _ _ _, rfl⟩
  case rest => exact resolveDefined_rest (huntouched h) hc hp

end Sys2Proof.Machine
end

section
/-! PROOFS. What can change the Contact Table and the round counter, over all commands (R73, R86, R92,
R150). -/

namespace Sys2Proof.Machine

/-! ### The Contact Table -/

/-- The commands that a full reset can come with. -/
def FullResets (c : Instr) : Prop :=
  c = .resetFull ∨ c = .rstnLow ∨ (∃ b, c = .rstnRise b) ∨ ∃ b, c = .startUpComplete b

/-- What a command can do to the Contact Table. -/
inductive ContactEffect (s : State) (c : Instr) (t : State) : Prop
  | same (h : t.contacts = s.contacts)
  | emptied (hc : FullResets c ∨ c = .resetScan ∨ ∃ b, c = .resetComplete b) (h : t.contacts = [])
  | acknowledged (hc : ∃ pairs, c = .ackContacts pairs)
  | zoneDeleted (hc : ∃ index, c = .deleteZone index)
  | resolved {n : BitVec 12} {r : Round} (hc : c = .conversionComplete n)
      (hr : s.scan.round = .running r) (hk : r.kind = .active)

theorem SampleEffect.contacts {s u : State} {raw : Nat} (h : SampleEffect raw s u) :
    u.contacts = s.contacts := by
  cases h with
  | none => rfl
  | taken => simp

/-- A completion changes the contacts only where it ends an ACTIVE round (R73). -/
theorem RoundEffect.contacts {s u t : State} (h : RoundEffect s u t) :
    t.contacts = u.contacts ∨ ∃ r, s.scan.round = .running r ∧ r.kind = .active := by
  cases h with
  | none h => exact .inl h.contacts
  | ended hr hk hv ht => exact .inr ⟨_, hr, hk⟩
  | quieted h => exact .inl (by rw [h.contacts]; simp)

theorem TableEffect.contacts {s t : State} {c : Instr} (h : TableEffect s c t) :
    ContactEffect s c t := by
  cases h with
  | same h => exact .same h.contacts
  | fullReset slot hc h => exact .emptied (.inl hc) h.contacts
  | scanReset h => exact .emptied (.inr (.inl rfl)) h.contacts
  | resetStands h => exact .emptied (.inr (.inr ⟨_, rfl⟩)) h.contacts
  | settings hv h => exact .same h.contacts
  | channel hi hf h => exact .same h.contacts
  | role hi hm h => exact .same h.contacts
  | calibrate h => exact .same h.contacts
  | defineZone ho hr h => exact .same h.contacts
  | deleteZone hz h => exact .zoneDeleted ⟨_, rfl⟩
  | acknowledge h => exact .acknowledged ⟨_, rfl⟩
  | quieted h => exact .same (by rw [h.contacts]; simp)
  | completed hu ht =>
    obtain hsame | ⟨r, hr, hk⟩ := ht.contacts
    · exact .same (hsame.trans hu.contacts)
    · exact .resolved rfl hr hk

theorem exec_contacts {c : Instr} {s t : State} (h : exec c s = .next t) : ContactEffect s c t := by
  obtain ⟨b, hb⟩ := exec_tables h
  cases hb.contacts with
  | same h => exact .same h
  | emptied hc h => exact .emptied hc h
  | acknowledged hc => exact .acknowledged hc
  | zoneDeleted hc => exact .zoneDeleted hc
  | resolved hc hr hk => exact .resolved hc hr hk

/-- Settles O59: the effects on the Contact Table, those that leave it ruled out. -/
theorem onlyTheseChangeContacts : Obligations.OnlyTheseChangeContacts := by
  intro c s t h hne
  cases exec_contacts h with
  | same h => exact absurd h hne
  | emptied hc h =>
    obtain (hc | hc | ⟨b, hc⟩ | ⟨b, hc⟩) | hc | ⟨b, hc⟩ := hc <;> simp [hc, h]
  | acknowledged hc => exact .inl hc
  | zoneDeleted hc => exact .inr (.inl hc)
  | resolved hc hr hk => simp [hc, hr, hk]

/-! ### The round counter -/

/-- What a command that is no reset can do to the round counter: nothing, or the advance with which a
RUNNING round ends (R150). -/
def CounterTurns (u t : Scan) : Prop :=
  t.counter = u.counter
    ∨ ((∃ r, u.round = .running r) ∧ t.counter = (u.counter + 1) % 65536
        ∧ (t.round = .idle ∨ ∃ k, t.round = .running { kind := k, phase := .reference, last := none }))

theorem counterTurns_completeRound {u : State} {r : Round} (hr : u.scan.round = .running r)
    (kind : RoundKind) (verdict : Verdict) :
    CounterTurns u.scan (completeRound kind verdict u).scan :=
  .inr ⟨⟨r, hr⟩, completeRound_ended kind verdict u⟩

theorem counterTurns_channelTurn {u : State} {r : Round} (hr : u.scan.round = .running r) :
    CounterTurns u.scan (channelTurn r u).scan := by
  unfold channelTurn
  split
  · exact .inl rfl
  · exact counterTurns_completeRound hr _ _

theorem enterMode_counter (s : State) : (enterMode s).scan.counter = s.scan.counter := by
  unfold enterMode
  split
  · rfl
  · rfl
  · simp only [startIfDue_fields]

theorem counterTurns_endAbandonment (u : State) :
    CounterTurns u.scan (endAbandonment u).scan := .inl (enterMode_counter _)

section
variable (u : State)

theorem counterTurns_roundAfterReference (verdict : Verdict) :
    CounterTurns u.scan (roundAfterReference verdict u).scan := by
  unfold roundAfterReference
  split
  · rename_i r hr
    cases verdict with
    | proceed => exact counterTurns_channelTurn hr
    | noise => exact counterTurns_completeRound hr _ _
  · exact counterTurns_endAbandonment u
  · exact .inl rfl
  · exact .inl rfl

theorem counterTurns_roundAfterChannel : CounterTurns u.scan (roundAfterChannel u).scan := by
  unfold roundAfterChannel
  split
  · rename_i r hr
    exact counterTurns_channelTurn hr
  · exact counterTurns_endAbandonment u
  · exact .inl rfl
  · exact .inl rfl

theorem counterTurns_roundAfterHeld (target : Target) :
    CounterTurns u.scan (roundAfterHeld target u).scan := by
  unfold roundAfterHeld
  split
  · rename_i r hr
    cases target with
    | ref => exact .inl rfl
    | channel i =>
      dsimp only
      split
      · exact .inl rfl
      · exact counterTurns_channelTurn hr
  · exact counterTurns_endAbandonment u
  · exact .inl rfl
  · exact .inl rfl

theorem counterTurns_finishScan (cv : Conversion) (raw : Nat) :
    CounterTurns u.scan (finishScan cv raw u).scan := by
  have href : (applyReference raw u).scan = u.scan := by simp
  have hsample : ∀ i, (applySample i raw u).scan = u.scan := by simp
  unfold finishScan
  split
  · split
    · exact href ▸ counterTurns_roundAfterReference (applyReference raw u) _
    · exact .inl (by rw [href])
  · rename_i i _ _
    split
    · exact hsample i ▸ counterTurns_roundAfterChannel (applySample i raw u)
    · exact .inl (by rw [hsample i])
  · split
    · exact counterTurns_roundAfterHeld u _
    · exact .inl rfl
  · split
    · exact counterTurns_roundAfterChannel u
    · exact .inl rfl

theorem finishHost_scan (cv : Conversion) (raw : Nat) : (finishHost cv raw u).scan = u.scan := by
  unfold finishHost
  split
  · split <;> simp
  all_goals rfl

/-- A completion turns the counter only where it ends a RUNNING round. -/
theorem counterTurns_completeConversion (raw : Nat) :
    CounterTurns u.scan (completeConversion raw u).scan := by
  unfold completeConversion
  split
  · exact .inl rfl
  · rename_i cv _
    split
    · exact .inl (by simp [finishHost_scan, releaseConverter])
    · simpa [releaseConverter] using counterTurns_finishScan (releaseConverter u) cv raw

end

/-! ### The counter over every command -/

theorem abandonForMode_counter (s : State) : (abandonForMode s).scan.counter = s.scan.counter := by
  unfold abandonForMode
  split
  · split
    · rfl
    · exact enterMode_counter _
  · rfl
  · exact enterMode_counter _
  · exact enterMode_counter _

theorem changeMode_counter (mode : ScanMode) (s : State) :
    (changeMode mode s).scan.counter = s.scan.counter := by
  have hw : (writeMode mode s).scan.counter = s.scan.counter := by cases mode <;> rfl
  simp only [changeMode, grant_fields, abandonForMode_counter, hw]

theorem queueMeasurement_scan (target : Target) (level : Nat) (s : State) :
    (queueMeasurement target level s).scan = s.scan := by
  rw [queueMeasurement_eq]

/-- The resets that set the counter to 0 (R150). -/
def CounterResets (c : Instr) : Prop :=
  c = .resetFull ∨ c = .resetScan ∨ c = .rstnLow ∨ (∃ b, c = .rstnRise b)
    ∨ ∃ b, c = .startUpComplete b

/-- What every command can do to the round counter. -/
inductive CounterEffect (s : State) (c : Instr) (t : State) : Prop
  | same (h : t.scan.counter = s.scan.counter)
  | turned {n : BitVec 12} (hc : c = .conversionComplete n) (h : CounterTurns s.scan t.scan)
  | reset (hc : CounterResets c) (h : t.scan.counter = 0)

theorem answerOk_scan (payload : List Byte) (s : State) : (answerOk payload s).scan = s.scan := rfl

/-- SET MODE ends an abandoned round without advancing the counter (R154). -/
theorem takeSetMode_counter (mode : ScanMode) (s : State) :
    (takeSetMode mode s).scan.counter = s.scan.counter := by
  unfold takeSetMode
  split
  · rfl
  · split
    · rfl
    · exact changeMode_counter mode s

theorem takeMeasure_scan (target level : Byte) (s : State) :
    (takeMeasure target level s).scan = s.scan := by
  unfold takeMeasure
  split
  · split
    · rfl
    · simp only [answerOk_scan, grant_fields, queueMeasurement_scan]
  · rfl
  · rfl

theorem takeSetSettings_scan (r : SettingsOperands) (s : State) :
    (takeSetSettings r s).scan = s.scan := by
  unfold takeSetSettings
  split
  · simp only [answerOk_scan, judgeAttn_fields]
  · rfl

theorem takeDeleteZone_scan (b : Byte) (s : State) : (takeDeleteZone b s).scan = s.scan := by
  unfold takeDeleteZone
  split
  · rfl
  · split
    · rfl
    · simp only [answerOk_scan, judgeAttn_fields]

theorem takeSetRole_scan (b code : Byte) (s : State) : (takeSetRole b code s).scan = s.scan := by
  unfold takeSetRole
  split
  · split <;> rfl
  · rfl
  · rfl

theorem takeDefineZone_scan (b kind th : Byte) (ms : List Byte) (s : State) :
    (takeDefineZone b kind th ms s).scan = s.scan := by
  unfold takeDefineZone
  split
  · rfl
  · split <;> rfl

theorem takeCalibrate_scan (mask : BitVec 32) (flag : Byte) (s : State) :
    (takeCalibrate mask flag s).scan = s.scan := by
  unfold takeCalibrate
  split
  · rfl
  · simp only [answerOk_scan]

/-- What a request can do to the round counter: RESET FULL and RESET SCAN alone write it. -/
theorem taking_counter {c : Instr} {take : State → State} (hc : taking c = some take) (s : State) :
    CounterEffect s c (take s) := by
  cases c <;> cases hc
  case resetFull => exact .reset (.inl rfl) rfl
  case resetScan =>
    refine .reset (.inr (.inl rfl)) ?_
    obtain ⟨_, _, _, _, _, _, _, _, _, _, _, _, _, _, _, hcounter⟩ :=
      restartByMode_fields (scanResetBlocks s)
    exact hcounter
  case setModePaused => exact .same (takeSetMode_counter _ s)
  case setModeActive => exact .same (takeSetMode_counter _ s)
  case setModeWatch => exact .same (takeSetMode_counter _ s)
  case measure x l => exact .same (by simp only [takeMeasure_scan])
  case setSettings r => exact .same (by simp only [takeSetSettings_scan])
  case setRole b r => exact .same (by simp only [takeSetRole_scan])
  case defineZone b k th ms => exact .same (by simp only [takeDefineZone_scan])
  case deleteZone b => exact .same (by simp only [takeDeleteZone_scan])
  case getChannel b => exact .same (by unfold takeGetChannel; split <;> rfl)
  case getZone b => exact .same (by unfold takeGetZone; split <;> rfl)
  case setChannel b f => exact .same (by unfold takeSetChannel; split <;> rfl)
  case calibrate m f => exact .same (by simp only [takeCalibrate_scan])
  case clearStatus mask =>
    exact .same (by simp only [takeClearStatus, answerOk_scan, judgeAttn_fields])
  case ackContacts pairs =>
    exact .same (by simp only [takeAckContacts, answerOk_scan, judgeAttn_fields])
  all_goals exact .same rfl

theorem completeFullReset_counter (cause : ResetCause) (level : Bool) (s : State) :
    (completeFullReset cause level s).scan.counter = 0 := by
  simp only [completeFullReset, judgeAttn_fields]
  rfl

theorem holdEnds_counter (s : State) : (holdEnds s).scan.counter = s.scan.counter := by
  simp only [holdEnds, grant_fields, endHoldWait_eq]

/-- What an event can do to the round counter. -/
theorem event_counter {c : Instr} {s t : State} (h : Event s c t) : CounterEffect s c t := by
  cases h with
  | ignored => exact .same rfl
  | powerOn => exact .same rfl
  | startUpWaits => exact .same rfl
  | startUpEnds =>
    exact .reset (by simp [CounterResets]) (completeFullReset_counter _ _ _)
  | rstnFalls => exact .reset (by simp [CounterResets]) rfl
  | rstnFallsHeld => exact .same rfl
  | rstnRises => exact .reset (by simp [CounterResets]) (completeFullReset_counter _ _ _)
  | rstnRisesOnly => exact .same rfl
  | holdBegins => exact .same (by rw [holdBegins_eq])
  | holdBeginsHeld => exact .same rfl
  | holdEnds => exact .same (holdEnds_counter _)
  | holdEndsHeld => exact .same rfl
  | resetCompletes =>
    refine .same ?_
    simp only [completeRequestedReset, judgeAttn_fields]
    rfl
  | @converted n cv h hc =>
    refine .turned rfl ?_
    simpa only [judgeAttn_fields] using counterTurns_completeConversion s n.toNat
  | roundTimer => exact .same (by simp only [grant_fields, startIfDue_fields])
  | watchTimer => exact .same (by simp only [grant_fields, startIfDue_fields])
  | roundHeldOff =>
    refine .same ?_
    simp only [judgeAttn_fields]
    rfl
  | measureHeldOff => exact .same (by unfold holdOff; split <;> rfl)
  | supplyFalls => exact .same rfl

theorem exec_counter {c : Instr} {s t : State} (h : exec c s = .next t) : CounterEffect s c t := by
  cases hc : taking c with
  | some take =>
    rw [exec_taking hc] at h
    cases h
    obtain ⟨_, _, _, e⟩ | ⟨_, e⟩ | ⟨_, status, e⟩ | e := deliver_cases c take s <;> rw [e]
    · exact taking_counter hc s
    · cases taking_counter hc (showBus (.written (requestFrameOf c).length) s) with
      | same h => exact .same h
      | turned hn h => exact .turned hn h
      | reset hr h => exact .reset hr h
    · exact .same rfl
    · exact .same rfl
  | none =>
    cases hb : isTransaction c with
    | true =>
      obtain ⟨p, b, rfl⟩ := exec_transaction hb h
      exact .same rfl
    | false => exact event_counter (exec_event (by simp [isEvent, hc, hb]) h)

/-- Settles O60: the effects on the counter. -/
theorem onlyTheseChangeTheRoundCounter : Obligations.OnlyTheseChangeTheRoundCounter := by
  intro c s t h
  cases exec_counter h with
  | same h => exact .inl h
  | reset hc h => exact .inr (.inr ⟨h, hc⟩)
  | @turned n hc h =>
    obtain hsame | ⟨⟨r, hr⟩, hcounter, hround⟩ := h
    · exact .inl hsame
    · exact .inr (.inl ⟨n, r, hc, hr, hcounter, hround⟩)

end Sys2Proof.Machine
end
